-- ==== Sys2Proof/Word.lean ====
section
/-! DEFINITION. The word type of SDA5708-ENC and the plain data the machine is made of: bytes, lines, events, the
mirror, the latches, the words a host can present. No behaviour is defined here. -/

namespace Sys2Proof

/-- A transport byte (R8, R53): bit 7 the most significant, bit 0 the least. -/
abbrev Byte := BitVec 8

/-- The four output lines (R10, R25). -/
inductive Line where
  | data | clock | load | reset
  deriving DecidableEq, Repr, Inhabited

/-- The three named delays of R7 and R27. Their lengths are open (R178); the trace holds their names. -/
inductive TimeParam where
  | phase | settle | reset
  deriving DecidableEq, Repr, Inhabited

/-- One event of the output trace (R27). A level is a Bool: false is 0 (low), true is 1 (high) (R10). -/
inductive Event where
  /-- One call of the line's `set(level)`, recorded even when the line already has that level. -/
  | set (line : Line) (level : Bool)
  /-- One delay of at least the named time, during which no line changes. -/
  | wait (t : TimeParam)
  deriving DecidableEq, Repr, Inhabited

/-- The levels last driven on the four lines, `L[line]` (R25). -/
structure Lines where
  data  : Bool
  clock : Bool
  load  : Bool
  reset : Bool
  deriving DecidableEq, Repr, Inhabited

/-- The control register mirror `M` (R18 to R21): `br` is in wire encoding, 0 the brightest. -/
structure Mirror where
  clear : Bool
  pcl   : Bool
  br    : BitVec 3
  deriving DecidableEq, Repr, Inhabited

/-- The reset state `S` (R23). -/
inductive ResetState where
  | unreset | ready
  deriving DecidableEq, Repr, Inhabited

/-- A glyph: exactly seven rows, row 0 first (R11, R124); only bits 4..0 of a row are significant. -/
structure Glyph where
  r0 : Byte
  r1 : Byte
  r2 : Byte
  r3 : Byte
  r4 : Byte
  r5 : Byte
  r6 : Byte
  deriving DecidableEq, Repr, Inhabited

/-- The operand latches of R14 and the transfer registers of R15. -/
structure Latches where
  /-- `OPC`, the operation code of the request. -/
  opc    : BitVec 4
  /-- `ARG_A`, the scalar operand. -/
  argA   : Byte
  /-- `ARG_G[0..6]`, the seven glyph rows. -/
  argG   : Glyph
  /-- `SR`, the shift register of one byte transfer. -/
  sr     : Byte
  /-- `BITCNT`, the count of bits of one byte transfer, 0 to 7. -/
  bitcnt : BitVec 3
  deriving DecidableEq, Repr, Inhabited

/-- What the opcode table gives an operation as its bits (R72): a command byte (format `WIRE8`, by which a model calls
an internal operation directly, R4) or a request word (format `REQ68`, R65). -/
inductive Code where
  | wire (b : Byte)
  | req  (w : BitVec 68)
  deriving DecidableEq, Repr, Inhabited

end Sys2Proof
end

