-- ==== Sys2Proof/Config.lean ====
section
/-! DEFINITION. The parameters of R7 and the values the spec leaves open. What the spec fixes or decides has a body; what
it leaves open is an opaque constant, so that nothing can be proved about its value. -/

namespace Sys2Proof.Config

/-- `N_DIGITS` (R7): character cells of the display; digit addresses are below it. -/
def nDigits : Nat := 8

/-- `N_ROWS` (R7): rows per glyph. -/
def nRows : Nat := 7

/-- `P_BIT` (R7, R56): the bit of the control command that carries `peak_current_low`. The source contradicts itself
here and the spec decides for bit 3 (90_conflicts.md C1). UNVERIFIED, unsafe if the resolution is wrong: log 6. -/
def pBit : Nat := 3

/-- `INIT_LINES` (R7, R26, R33): the levels of the lines before the block first drives each. Unconstrained by the spec, so
opaque. DESIGN CHOICE (one constant for the machine), log 2. -/
opaque initLines : Lines

/-- What the flip-flops of `M` hold at power-on. R33: "holds no value", and a model must not pick one; so opaque, and no
operation reads it before `RESET` (R150). DESIGN CHOICE, log 1. -/
opaque powerOnMirror : Mirror

/-- What the latches of R14 and R15 hold once no operation is in progress: unspecified (R33). A free value, drawn with a
counter in State. DESIGN CHOICE, log 3. -/
opaque freeLatches : Nat → Latches

/-- The host's built-in font (R125), outside the block; the source gives no bitmap (91_not_in_source.md N14), so opaque. -/
opaque defaultFont : List (Byte × Glyph)

/-- The code of the host's blank/space character (R126, R131), outside the block; not in the source, so opaque. -/
opaque blankChar : Byte

end Sys2Proof.Config
end

