-- ==== Sys2Proof/Syntax.lean ====
section
/-! DEFINITION. The operations of SDA5708-ENC (R4), one constructor per row of spec/opcode_table.json (R72). -/

namespace Sys2Proof

/-- The eleven operations of R4 and the two reserved rows of R67. Request fields that an operation ignores (R65) are no
operand of its constructor (log 16). -/
inductive Instr where
  /-- `WRITE_BYTE b` (R78), internal. -/
  | writeByte (b : Byte)
  /-- `CTRL_WRITE` (R88), internal; it has no operand and reads the mirror. -/
  | ctrlWrite
  /-- `DIGIT_SELECT d` (R90), internal; precondition d ≤ 7 (R91). -/
  | digitSelect (d : Byte)
  /-- `ROW_DATA v` (R92), internal. -/
  | rowData (v : Byte)
  /-- `RESET` (R102). -/
  | reset
  /-- `CLEAR` (R105), the hardware-level screen clear. -/
  | clear
  /-- `SET_BRIGHTNESS b` (R108), b in API encoding. -/
  | setBrightness (b : Byte)
  /-- `GET_BRIGHTNESS` (R111). -/
  | getBrightness
  /-- `SET_PEAK_CURRENT p` (R113), only bit 0 used. -/
  | setPeakCurrent (p : Byte)
  /-- `GET_PEAK_CURRENT` (R116). -/
  | getPeakCurrent
  /-- `WRITE_GLYPH d, g` (R94). -/
  | writeGlyph (d : Byte) (g : Glyph)
  /-- A request with the reserved code 0x7 (R67). -/
  | reservedReq7
  /-- A request with a reserved code 0x8 to 0xF (R67); `lo` is the code's low three bits. -/
  | reservedReq8F (lo : BitVec 3)
  deriving DecidableEq, Repr

/-- Host-visible operations can be requested at the request port, internal ones cannot (R4, R66). -/
def Instr.hostVisible : Instr → Bool
  | .writeByte _ => false
  | .ctrlWrite => false
  | .digitSelect _ => false
  | .rowData _ => false
  | .reset => true
  | .clear => true
  | .setBrightness _ => true
  | .getBrightness => true
  | .setPeakCurrent _ => true
  | .getPeakCurrent => true
  | .writeGlyph _ _ => true
  | .reservedReq7 => true
  | .reservedReq8F _ => true

end Sys2Proof
end

