-- ==== Sys2Proof/Machine/State.lean ====
section
/-! DEFINITION. The state of SDA5708-ENC as plain data, the outcomes that stop a step, and the state after power-on. -/

namespace Sys2Proof.Machine

/-- The phases of one frame, of which the sequencer position is made (R16). -/
inductive Phase where
  | loadLow | data | clkHigh | clkLow | loadHigh | settle
  deriving DecidableEq, Repr, Inhabited

/-- The sequencer position `SEQ` (R16). -/
inductive SeqPos where
  | idle
  | frame (byteIndex bitIndex : Nat) (phase : Phase)
  | rstLow
  | rstHigh
  deriving DecidableEq, Repr, Inhabited

/-- What the world outside the block does next (R29, R136, R151; log 9). -/
inductive HostAction where
  /-- A request word on the request port with `req_valid = 1` (R29), or a direct call of an internal operation (R4). -/
  | call (c : Code)
  /-- `rst_n` is driven low and released (R29, R161). -/
  | assertRstN
  /-- Another agent changes one of the four lines (R151). -/
  | foreignSet (line : Line) (level : Bool)
  deriving DecidableEq, Repr

/-- The machine's state. The rule behind each field is in INVENTORY.md, '## State'. -/
structure State where
  /-- `M`, the control register mirror (R18). -/
  mirror     : Mirror
  /-- `S`, the reset state (R23). -/
  resetState : ResetState
  /-- `L[line]`, the levels last driven (R25). -/
  lines      : Lines
  /-- The output trace, oldest event first (R27). -/
  trace      : List Event
  /-- `BUSY` (R17). -/
  busy       : Bool
  /-- `SEQ` (R16). -/
  seq        : SeqPos
  /-- `OPC`, `ARG_A`, `ARG_G`, `SR`, `BITCNT` (R14, R15). -/
  latches    : Latches
  /-- `rsp_valid` (R30). -/
  rspValid   : Bool
  /-- `rsp_data` (R30), valid while `rspValid`. -/
  rspData    : Byte
  /-- The model's own: the outside world's next actions, the first one next. Its head stands on the input ports of R29. -/
  host       : List HostAction
  /-- The model's own: how many free values have been drawn (log 4). -/
  freeCount  : Nat
  deriving DecidableEq, Repr

/-- The six operations that read the mirror (R150), the `info` of the fault. -/
inductive MirrorOp where
  | ctrlWrite | clear | setBrightness | getBrightness | setPeakCurrent | getPeakCurrent
  deriving DecidableEq, Repr

/-- Why the machine stops with a fault. -/
inductive Fault where
  /-- `PreconditionViolated(op)` (R150): raised by an operation that reads the mirror while S = UNRESET. Safe: nothing is
  emitted or written, and no claim about the run can be proved. -/
  | preconditionViolated (op : MirrorOp)
  deriving DecidableEq, Repr

/-- Why the machine gives no meaning (R151). All safe: the run has no next state. -/
inductive Refusal where
  /-- An instruction whose meaning is not written; raised by exec's arm only. -/
  | notModelled (mnemonic : String)
  /-- An operation is started by a direct call while one is in progress (R151, R169). -/
  | concurrentInvocation
  /-- `DIGIT_SELECT d` is called directly with d > 7 (R91, R151). -/
  | digitSelectOutOfRange (d : Byte)
  /-- `rst_n` is asserted while BUSY = 1 (R151, R163). -/
  | abortMidOperation
  /-- An agent other than the block changes a line (R151, R174). -/
  | foreignLineDriver
  deriving DecidableEq, Repr

/-- The block right after power-on (R33, R162). What R33 leaves open is an opaque constant of Config (log 1, 2, 3); the
response port, which R33 does not list, starts at zero (log 5). -/
def State.reset : State where
  mirror     := Config.powerOnMirror
  resetState := .unreset
  lines      := Config.initLines
  trace      := []
  busy       := false
  seq        := .idle
  latches    := Config.freeLatches 0
  rspValid   := false
  rspData    := 0
  host       := []
  freeCount  := 1

end Sys2Proof.Machine
end

