-- ==== Sys2Proof/Machine/Flags.lean ====
section
/-! DEFINITION. The block has no condition codes (R17). Its single flag is BUSY; here is the handshake that reads it, the
state changes that set and clear it, and the response port that goes with its fall (R17, R29, R30). -/

namespace Sys2Proof.Machine

/-- `req_ready = NOT BUSY` (R29). -/
def State.reqReady (s : State) : Bool := !s.busy

/-- `req_valid` (R29): a request word is on the port. -/
def State.reqValid (s : State) : Bool :=
  match s.host with
  | .call (.req _) :: _ => true
  | .call (.wire _) :: _ => false
  | .assertRstN :: _ => false
  | .foreignSet _ _ :: _ => false
  | [] => false

/-- The start of a requested operation: BUSY rises, and `rsp_valid`, a pulse of one cycle (R30), is over. -/
def State.start (s : State) : State := { s with busy := true, rspValid := false }

/-- Once no operation is in progress the latches of R14 and R15 are unspecified (R33): a free value (log 3). -/
def State.release (s : State) : State :=
  { s with latches := Config.freeLatches s.freeCount, freeCount := s.freeCount + 1 }

/-- The completion of a requested operation: BUSY falls, SEQ is IDLE, `rsp_valid` pulses with the response (R17, R30). -/
def State.complete (resp : Byte) (s : State) : State :=
  { s with busy := false, seq := .idle, rspValid := true, rspData := resp }.release

/-- The completion of a directly called internal operation: it has no request, so neither BUSY nor a response belongs to it
(R78, log 8). -/
def State.completeDirect (s : State) : State := { s with seq := .idle, rspValid := false }.release

end Sys2Proof.Machine
end

