-- ==== Sys2Proof/WellFormed.lean ====
section
/-! DEFINITION. Which operations are well formed. The spec has one precondition on an operand (R91); every other operand is
admitted at every value of its width and masked or ignored by the operation itself (R62, R63, R92, R95). -/

namespace Sys2Proof

/-- R91: a digit-select command exists for digits 0 to 7 only. The digit of `WRITE_GLYPH` has no such precondition: it is
tested by the operation (R95). -/
def Instr.wellFormed : Instr → Bool
  | .digitSelect d => decide (d.toNat < Config.nDigits)
  | .writeByte _ => true
  | .ctrlWrite => true
  | .rowData _ => true
  | .reset => true
  | .clear => true
  | .setBrightness _ => true
  | .getBrightness => true
  | .setPeakCurrent _ => true
  | .getPeakCurrent => true
  | .writeGlyph _ _ => true
  | .reservedReq7 => true
  | .reservedReq8F _ => true

end Sys2Proof
end

