-- ==== Sys2Proof/Decode.lean ====
section
/-! DEFINITION. The encodings of 30_encoding.md: the three command formats and their checker (R54 to R61, R69), the request
word (R65 to R67), the decoder of both, and the encoder. -/

namespace Sys2Proof

/-! ## The command byte -/

/-- `enc_ctrl` (R57): the control-register command of a mirror, `1 1 C 0 P B B B` with C = NOT clear. -/
def encCtrl (m : Mirror) : Byte :=
  0b11000000#8
    ||| (if m.clear then 0#8 else 0b00100000#8)
    ||| (if m.pcl then 1#8 <<< Config.pBit else 0#8)
    ||| m.br.setWidth 8

/-- `enc_dsel` (R59), the digit-select command; defined by the spec for d in 0 to 7. -/
def encDsel (d : Byte) : Byte := 0b10100000#8 ||| (d &&& 0b111#8)

/-- `enc_row` (R61), the row-data command; bits 7..5 of the row are dropped. -/
def encRow (v : Byte) : Byte := v &&& 0b00011111#8

/-- What a command byte says (R69). -/
inductive WireCmd where
  | ctrl (m : Mirror)
  | dsel (digit : BitVec 3)
  | row  (pattern : BitVec 5)
  /-- One of the 184 bytes no operation emits (R40, R68); the spec gives it no meaning. -/
  | notEmitted
  deriving DecidableEq, Repr

/-- `decode(c)` of R69, total on all 256 values. -/
def decodeByte (c : Byte) : WireCmd :=
  if c &&& 0xD0#8 = 0xC0#8 then
    .ctrl { clear := !c.getLsbD 5, pcl := c.getLsbD Config.pBit, br := c.extractLsb' 0 3 }
  else if c &&& 0xF8#8 = 0xA0#8 then .dsel (c.extractLsb' 0 3)
  else if c &&& 0xE0#8 = 0x00#8 then .row (c.extractLsb' 0 5)
  else .notEmitted

/-! ## The request word (R65) -/

/-- `req_op`, bits 67..64. -/
def reqOp (w : BitVec 68) : BitVec 4 := w.extractLsb' 64 4

/-- `req_a`, bits 63..56. -/
def reqA (w : BitVec 68) : Byte := w.extractLsb' 56 8

/-- Row `i` of `req_g` is bits 8i+7..8i, so row 0 is the least significant byte. -/
def reqG (w : BitVec 68) : Glyph where
  r0 := w.extractLsb' 0 8
  r1 := w.extractLsb' 8 8
  r2 := w.extractLsb' 16 8
  r3 := w.extractLsb' 24 8
  r4 := w.extractLsb' 32 8
  r5 := w.extractLsb' 40 8
  r6 := w.extractLsb' 48 8

/-- The 56 bits of `req_g`. -/
def packGlyph (g : Glyph) : BitVec 56 :=
  g.r6 ++ (g.r5 ++ (g.r4 ++ (g.r3 ++ (g.r2 ++ (g.r1 ++ g.r0)))))

/-- The word `{req_op, req_a, req_g}` of R65. -/
def requestWord (op : BitVec 4) (a : Byte) (g : BitVec 56) : BitVec 68 :=
  op ++ (a ++ g)

/-! ## Decoding -/

/-- The operation a request names (R66, R67): total, every one of the sixteen codes has a meaning. -/
def decodeRequest (w : BitVec 68) : Instr :=
  match (reqOp w).toNat with
  | 0 => .reset
  | 1 => .clear
  | 2 => .setBrightness (reqA w)
  | 3 => .getBrightness
  | 4 => .setPeakCurrent (reqA w)
  | 5 => .getPeakCurrent
  | 6 => .writeGlyph (reqA w) (reqG w)
  | 7 => .reservedReq7
  | _ => .reservedReq8F (w.extractLsb' 64 3)

/-- The internal operation a `WIRE8` byte of the table names. The row of `WRITE_BYTE` matches every byte; where a more
specific row matches too, that row is taken (DESIGN CHOICE, log 7). -/
def decodeWire (c : Byte) : Instr :=
  match decodeByte c with
  | .ctrl _ => .ctrlWrite
  | .dsel d => .digitSelect (d.setWidth 8)
  | .row v => .rowData (v.setWidth 8)
  | .notEmitted => .writeByte c

/-- The operation of a code, of either format. -/
def decode : Code → Instr
  | .wire c => decodeWire c
  | .req w => decodeRequest w

/-- Why a numbered word of the opcode table is no code. -/
inductive DecodeError where
  /-- The table has 8-bit and 68-bit rows only (R72). Safe: nothing is decoded. -/
  | noSuchWidth (nbits : Nat)
  /-- A bit is set above the format's width. Safe: nothing is decoded. -/
  | bitAboveWidth
  deriving DecidableEq, Repr

/-- A word numbered as spec/opcode_table.json numbers it: `nbits` is 8 for a `WIRE8` row and 68 (or, in whole bytes, 72)
for a `REQ68` row. -/
def codeOfWord (nbits w : Nat) : Except DecodeError Code :=
  if nbits = 8 then
    if w < 2 ^ 8 then .ok (.wire (BitVec.ofNat 8 w)) else .error .bitAboveWidth
  else if nbits = 68 ∨ nbits = 72 then
    if w < 2 ^ 68 then .ok (.req (BitVec.ofNat 68 w)) else .error .bitAboveWidth
  else .error (.noSuchWidth nbits)

/-- The instruction the decoder reads from a numbered word of the table. -/
def decodeTableWord (nbits w : Nat) : Option Instr :=
  match codeOfWord nbits w with
  | .ok c => some (decode c)
  | .error _ => none

/-! ## Encoding -/

/-- The code of an operation, from R54 to R61 and R65 to R67. Ignored request fields are zero. `CTRL_WRITE` has no operand:
its code is the command of the mirror after `RESET`, one of the 32 bytes of its row (log 7). -/
def encode : Instr → Code
  | .writeByte b => .wire b
  | .ctrlWrite => .wire (encCtrl { clear := false, pcl := false, br := 0 })
  | .digitSelect d => .wire (encDsel d)
  | .rowData v => .wire (encRow v)
  | .reset => .req (requestWord 0x0 0 0)
  | .clear => .req (requestWord 0x1 0 0)
  | .setBrightness b => .req (requestWord 0x2 b 0)
  | .getBrightness => .req (requestWord 0x3 0 0)
  | .setPeakCurrent p => .req (requestWord 0x4 p 0)
  | .getPeakCurrent => .req (requestWord 0x5 0 0)
  | .writeGlyph d g => .req (requestWord 0x6 d (packGlyph g))
  | .reservedReq7 => .req (requestWord 0x7 0 0)
  | .reservedReq8F lo => .req (requestWord (1#1 ++ lo) 0 0)

/-- The operands the `WIRE8` encodings admit: a row of five bits (R60), a digit of three (R58), and for `WRITE_BYTE` a byte
that no more specific row claims. Every request operand is admitted. -/
def Instr.encodable : Instr → Bool
  | .writeByte b => decide (decodeByte b = .notEmitted)
  | .ctrlWrite => true
  | .digitSelect d => decide (d.toNat < 8)
  | .rowData v => decide (v.toNat < 32)
  | .reset => true
  | .clear => true
  | .setBrightness _ => true
  | .getBrightness => true
  | .setPeakCurrent _ => true
  | .getPeakCurrent => true
  | .writeGlyph _ _ => true
  | .reservedReq7 => true
  | .reservedReq8F _ => true

end Sys2Proof
end

