-- ==== Sys2Proof/Machine/Operands.lean ====
section
/-! DEFINITION. What the operations make of their operands (R62, R63): the brightness inversion, the peak-current bit, the
digit range test, the rows of a glyph, and the mirror with one field replaced. -/

namespace Sys2Proof.Machine

/-- `wire = 7 - (logical & 0b111)`, a subtraction on naturals that never underflows (R62). -/
def wireBrightness (b : Byte) : BitVec 3 := BitVec.ofNat 3 (7 - (b &&& 0b111#8).toNat)

/-- `api = 7 - M.br`, zero-extended to the response port (R30, R111). -/
def apiBrightness (br : BitVec 3) : Byte := BitVec.ofNat 8 (7 - br.toNat)

/-- `p[0]` (R63 (b)). -/
def peakBit (p : Byte) : Bool := p.getLsbD 0

/-- `zext_8(M.pcl)` (R30). -/
def peakResponse (pcl : Bool) : Byte := if pcl then 1 else 0

/-- The digit range test of R95: unsigned, on the full 8-bit operand, before any masking. -/
def digitInRange (d : Byte) : Bool := decide (d.toNat < Config.nDigits)

/-- The seven rows of a glyph in the order they are sent (R38, R42, R96). -/
def glyphRows (g : Glyph) : List Byte := [g.r0, g.r1, g.r2, g.r3, g.r4, g.r5, g.r6]

/-- The mirror with `M.clear` replaced (R105). -/
def mirrorSetClear (c : Bool) (m : Mirror) : Mirror := { m with clear := c }

/-- The mirror with `M.br` replaced from an API brightness (R108). -/
def mirrorSetBrightness (b : Byte) (m : Mirror) : Mirror := { m with br := wireBrightness b }

/-- The mirror with `M.pcl` replaced from an operand (R113; polarity: R114, log 19). -/
def mirrorSetPeak (p : Byte) (m : Mirror) : Mirror := { m with pcl := peakBit p }

/-- The mirror's hardware defaults, which `RESET` gives it (R22, R102). -/
def mirrorDefault : Mirror := { clear := false, pcl := false, br := 0 }

/-- The eight bytes of an accepted glyph write: the digit select, then the seven rows (R94, R97). -/
def glyphBytes (d : Byte) (g : Glyph) : List Byte := encDsel d :: (glyphRows g).map encRow

end Sys2Proof.Machine
end

