-- ==== Sys2Proof/Machine/Ops.lean ====
section
/-! DEFINITION. The named operations over the output lines and the trace, the one way a byte goes out (R78), the guards that
stop an operation (R150, R151), and how an operation runs from start to completion. There is no exception to take and none
to return from (R146, R147). -/

namespace Sys2Proof.Machine

/-! ## Lines and trace -/

/-- `L[line] <- level` (R25). -/
def setLine (ls : Lines) : Line → Bool → Lines
  | .data, v => { ls with data := v }
  | .clock, v => { ls with clock := v }
  | .load, v => { ls with load := v }
  | .reset, v => { ls with reset := v }

/-- What one event does to the levels: a `Wait` changes none (R27). -/
def applyEvent (ls : Lines) : Event → Lines
  | .set l v => setLine ls l v
  | .wait _ => ls

/-- The level view of a list of events (R27). -/
def levelsAfter (ls : Lines) (es : List Event) : Lines := es.foldl applyEvent ls

/-- `emit`, for a list of events: each is appended to the trace and drives its line (R9, R27). -/
def State.emit (es : List Event) (s : State) : State :=
  { s with trace := s.trace ++ es, lines := levelsAfter s.lines es }

/-- `M <- m`. -/
def State.setMirror (m : Mirror) (s : State) : State := { s with mirror := m }

/-- `S <- r`. -/
def State.setResetState (r : ResetState) (s : State) : State := { s with resetState := r }

/-- The transfer registers `SR` and `BITCNT` (R15). -/
def State.setTransfer (sr : Byte) (cnt : BitVec 3) (s : State) : State :=
  { s with latches := { s.latches with sr := sr, bitcnt := cnt } }

/-! ## The transport -/

/-- The six events of one bit slot (R64, R78; the places of the waits: R78, log 20). -/
def slotEvents (bit : Bool) : List Event :=
  [.set .data bit, .wait .phase, .set .clock true, .wait .phase, .set .clock false, .wait .phase]

/-- The eight bits of a byte in the order they are sent, bit 0 first (R41, R80). -/
def wireBits (b : Byte) : List Bool := (List.range 8).map b.getLsbD

/-- The 51 events of one frame (R78, R79). -/
def frameEvents (b : Byte) : List Event :=
  .set .load false :: (wireBits b).flatMap slotEvents ++ [.set .load true, .wait .settle]

/-- `WRITE_BYTE(b)` (R78). After the eight slots `SR` has been shifted empty (R80) and `BITCNT` stands at 7. -/
def sendByte (b : Byte) (s : State) : State := (s.emit (frameEvents b)).setTransfer 0 7

/-- Bytes one after the other, nothing between them (R48). -/
def sendBytes : List Byte → State → State
  | [], s => s
  | b :: bs, s => sendBytes bs (sendByte b s)

/-- `CTRL_WRITE()` (R88): the byte built from the mirror as it is now. -/
def sendCtrl (s : State) : State := sendByte (encCtrl s.mirror) s

/-- The four events of the reset sequence (R102). -/
def resetEvents : List Event :=
  [.set .reset false, .wait .reset, .set .reset true, .wait .reset]

/-! ## Starting, guarding and completing an operation -/

/-- The outcome of a step of this machine. -/
abbrev Result := Host.Outcome State Fault Refusal

/-- R151, R169: no operation starts while another is in progress. -/
def unlessBusy (s : State) (k : Result) : Result :=
  if s.busy then .refused .concurrentInvocation else k

/-- R150: `if S == UNRESET: raise PreconditionViolated(op)`, before any event or write. -/
def requireReady (op : MirrorOp) (s : State) (k : Result) : Result :=
  match s.resetState with
  | .unreset => .fault (.preconditionViolated op)
  | .ready => k

/-- A requested operation, from acceptance to completion (R17, R29, R30). -/
def requested (resp : Byte) (body : State → State) (s : State) : Result :=
  .next ((body s.start).complete resp)

/-- An internal operation called directly (R4, log 8). -/
def direct (body : State → State) (s : State) : Result := .next (body s).completeDirect

end Sys2Proof.Machine
end

