-- ==== Sys2Proof/Machine/Control.lean ====
section
/-! DEFINITION. The reset and control-register operations, 42_control.md, and the reserved requests of R67. -/

namespace Sys2Proof.Machine

/-- The body of `RESET` (R102): the pulse, then the mirror, then S as the last action (R103). -/
def resetBody (s : State) : State :=
  ((s.emit resetEvents).setMirror mirrorDefault).setResetState .ready

/-- `RESET` (R102): legal in both reset states. -/
def execReset (s : State) : Result := unlessBusy s (requested 0 resetBody s)

/-- A control-register update: the field first, then the byte built from the mirror (R49). -/
def updateCtrl (f : Mirror → Mirror) (s : State) : State := sendCtrl (s.setMirror (f s.mirror))

/-- `CLEAR` (R105): clear asserted, then released, each by one control byte. -/
def execClear (s : State) : Result :=
  unlessBusy s
    (requireReady .clear s
      (requested 0 (fun s => updateCtrl (mirrorSetClear false) (updateCtrl (mirrorSetClear true) s)) s))

/-- `SET_BRIGHTNESS b` (R108, R109). -/
def execSetBrightness (b : Byte) (s : State) : Result :=
  unlessBusy s (requireReady .setBrightness s (requested 0 (updateCtrl (mirrorSetBrightness b)) s))

/-- `GET_BRIGHTNESS` (R111, R117): reads the mirror, never the chip. -/
def execGetBrightness (s : State) : Result :=
  unlessBusy s (requireReady .getBrightness s (requested (apiBrightness s.mirror.br) id s))

/-- `SET_PEAK_CURRENT p` (R109, R113). -/
def execSetPeakCurrent (p : Byte) (s : State) : Result :=
  unlessBusy s (requireReady .setPeakCurrent s (requested 0 (updateCtrl (mirrorSetPeak p)) s))

/-- `GET_PEAK_CURRENT` (R116, R117). -/
def execGetPeakCurrent (s : State) : Result :=
  unlessBusy s (requireReady .getPeakCurrent s (requested (peakResponse s.mirror.pcl) id s))

/-- Reserved code 0x7 (R67): accepted, no event, no state change, response 0. -/
def execReservedReq7 (s : State) : Result := unlessBusy s (requested 0 id s)

/-- Reserved codes 0x8 to 0xF (R67): as for 0x7, whatever the low three bits of the code. -/
def execReservedReq8F (_lo : BitVec 3) (s : State) : Result := unlessBusy s (requested 0 id s)

end Sys2Proof.Machine
end

