-- ==== Sys2Proof/Machine/Encoder.lean ====
section
/-! DEFINITION. The register/command encoder's operations, 41_encoder.md. -/

namespace Sys2Proof.Machine

/-- `CTRL_WRITE` (R88), called directly; it reads the mirror (R150). -/
def execCtrlWrite (s : State) : Result :=
  unlessBusy s (requireReady .ctrlWrite s (direct sendCtrl s))

/-- `DIGIT_SELECT d` (R90), called directly: refused for d > 7 (R91, R151). -/
def execDigitSelect (d : Byte) (s : State) : Result :=
  unlessBusy s
    (if digitInRange d then direct (sendByte (encDsel d)) s else .refused (.digitSelectOutOfRange d))

/-- `ROW_DATA v` (R92), called directly. -/
def execRowData (v : Byte) (s : State) : Result := unlessBusy s (direct (sendByte (encRow v)) s)

/-- The body of `WRITE_GLYPH` (R94): the range test first, then the select and the seven rows as one unit (R95, R98). -/
def glyphBody (d : Byte) (g : Glyph) (s : State) : State :=
  if digitInRange d then sendBytes (glyphBytes d g) s else s

/-- `WRITE_GLYPH d, g` (R94): never a fault, in either reset state (R99); response 0, in range or not (R141). -/
def execWriteGlyph (d : Byte) (g : Glyph) (s : State) : Result :=
  unlessBusy s (requested 0 (glyphBody d g) s)

end Sys2Proof.Machine
end

