-- ==== Sys2Proof/Machine/Transport.lean ====
section
/-! DEFINITION. The bit-serial transport's operation, 40_transport.md. -/

namespace Sys2Proof.Machine

/-- `WRITE_BYTE b` (R78): total on all 256 values, in both reset states (R68, R83). As R177 asks a model that exposes it to
note: with a byte of the `CTRL` format other than the command of the mirror it writes the chip's control register behind the
mirror's back, and the mirror invariant of R22 does not hold after it. No request reaches it (R66). -/
def execWriteByte (b : Byte) (s : State) : Result := unlessBusy s (direct (sendByte b) s)

end Sys2Proof.Machine
end

