-- ==== Sys2Proof/Machine/Dispatch.lean ====
section
/-! DEFINITION. One arm per operation. -/

namespace Sys2Proof.Machine

def exec (i : Instr) (s : State) : Host.Outcome State Fault Refusal :=
  match i with
  | .writeByte b => Sys2Proof.Machine.execWriteByte b s
  | .ctrlWrite => Sys2Proof.Machine.execCtrlWrite s
  | .digitSelect d => Sys2Proof.Machine.execDigitSelect d s
  | .rowData v => Sys2Proof.Machine.execRowData v s
  | .reset => Sys2Proof.Machine.execReset s
  | .clear => Sys2Proof.Machine.execClear s
  | .setBrightness b => Sys2Proof.Machine.execSetBrightness b s
  | .getBrightness => Sys2Proof.Machine.execGetBrightness s
  | .setPeakCurrent p => Sys2Proof.Machine.execSetPeakCurrent p s
  | .getPeakCurrent => Sys2Proof.Machine.execGetPeakCurrent s
  | .writeGlyph d g => Sys2Proof.Machine.execWriteGlyph d g s
  | .reservedReq7 => Sys2Proof.Machine.execReservedReq7 s
  | .reservedReq8F lo => Sys2Proof.Machine.execReservedReq8F lo s

end Sys2Proof.Machine
end

