-- ==== Sys2Proof/Machine/Sequencer.lean ====
section
/-! DEFINITION. The sequencer at the grain of R16: an accepted request is carried out one phase at a time from the operand
latches of R14 and the transfer registers of R15. `exec` gives the operation as one atomic step; this is the same operation
as the hardware walks through it. Which events belong to which phase: log 21. -/

namespace Sys2Proof.Machine

/-- The glyph row at an index, `ARG_G[i]` (R14). -/
def glyphRow (g : Glyph) (i : Nat) : Option Byte := (glyphRows g)[i]?

/-- The mirror with which transport byte `k` of the latched operation is sent, and that byte; none where the operation has no
such byte (R71). -/
def frameByte (s : State) (k : Nat) : Option (Mirror × Byte) :=
  match s.latches.opc.toNat, k with
  | 1, 0 => some (mirrorSetClear true s.mirror, encCtrl (mirrorSetClear true s.mirror))
  | 1, 1 => some (mirrorSetClear false s.mirror, encCtrl (mirrorSetClear false s.mirror))
  | 2, 0 => some (mirrorSetBrightness s.latches.argA s.mirror, encCtrl (mirrorSetBrightness s.latches.argA s.mirror))
  | 4, 0 => some (mirrorSetPeak s.latches.argA s.mirror, encCtrl (mirrorSetPeak s.latches.argA s.mirror))
  | 6, 0 => if digitInRange s.latches.argA then some (s.mirror, encDsel s.latches.argA) else none
  | 6, i + 1 =>
    if digitInRange s.latches.argA then (glyphRow s.latches.argG i).map fun v => (s.mirror, encRow v) else none
  | _, _ => none

/-- The response of the latched operation (R30). -/
def latchedResponse (s : State) : Byte :=
  match s.latches.opc.toNat with
  | 3 => apiBrightness s.mirror.br
  | 5 => peakResponse s.mirror.pcl
  | _ => 0

/-- Where the sequencer stands right after acceptance: at the first phase of the operation, or IDLE for an operation with no
event, which completes in the cycle after acceptance (R180). -/
def firstPos (s : State) : SeqPos :=
  if s.latches.opc = 0 then .rstLow
  else if (frameByte s 0).isSome then .frame 0 0 .loadLow
  else .idle

/-- The operand latches loaded from a request word (R14, log 15). -/
def State.latchRequest (w : BitVec 68) (s : State) : State :=
  { s with latches := { s.latches with opc := reqOp w, argA := reqA w, argG := reqG w } }

/-- `SEQ <- p`. -/
def State.setSeq (p : SeqPos) (s : State) : State := { s with seq := p }

/-- Acceptance of a request by an idle block (R29): BUSY rises, the operands are latched, the sequencer is set off. -/
def State.accept (w : BitVec 68) (s : State) : State :=
  let s := (s.latchRequest w).start
  s.setSeq (firstPos s)

/-- One phase of the operation in progress (R16, R78, R80, R102). DESIGN CHOICE, log 21: outside a bit slot R16 does not say
what bit_index is; here it is 0 in LOAD_LOW and stays 7 in LOAD_HIGH and SETTLE. -/
def tick (s : State) : State :=
  let s := { s with rspValid := false }
  match s.seq with
  | .idle => s.complete (latchedResponse s)
  | .rstLow => (s.emit [.set .reset false, .wait .reset]).setSeq .rstHigh
  | .rstHigh =>
    (((s.emit [.set .reset true, .wait .reset]).setMirror mirrorDefault).setResetState .ready).complete 0
  | .frame k _ .loadLow =>
    match frameByte s k with
    | some (m, b) =>
      (((s.setMirror m).setTransfer b 0).emit [.set .load false]).setSeq (.frame k 0 .data)
    | none => s.complete (latchedResponse s)
  | .frame k i .data =>
    (s.emit [.set .data (s.latches.sr.getLsbD 0), .wait .phase]).setSeq (.frame k i .clkHigh)
  | .frame k i .clkHigh => (s.emit [.set .clock true, .wait .phase]).setSeq (.frame k i .clkLow)
  | .frame k i .clkLow =>
    let s := s.emit [.set .clock false, .wait .phase]
    if i < 7 then
      (s.setTransfer (s.latches.sr >>> 1) (s.latches.bitcnt + 1)).setSeq (.frame k (i + 1) .data)
    else (s.setTransfer (s.latches.sr >>> 1) s.latches.bitcnt).setSeq (.frame k i .loadHigh)
  | .frame k i .loadHigh => (s.emit [.set .load true]).setSeq (.frame k i .settle)
  | .frame k _ .settle =>
    let s := s.emit [.wait .settle]
    if (frameByte s (k + 1)).isSome then s.setSeq (.frame (k + 1) 0 .loadLow)
    else s.complete (latchedResponse s)

/-- The mirror-reading operation the operand latches name, if they name one (R150). -/
def latchedMirrorOp (s : State) : Option MirrorOp :=
  match s.latches.opc.toNat with
  | 1 => some .clear
  | 2 => some .setBrightness
  | 3 => some .getBrightness
  | 4 => some .setPeakCurrent
  | 5 => some .getPeakCurrent
  | _ => none

/-- The operation in progress goes on by one phase. R150 holds here too: an operation that reads the mirror does not run
while S = UNRESET. -/
def advance (s : State) : Result :=
  match latchedMirrorOp s with
  | some op => requireReady op s (.next (tick s))
  | none => .next (tick s)

/-- How many phases an operation takes from acceptance to completion (R16): 27 a frame, two for the reset sequence, one for
an operation with no event (R180). -/
def ticksOf : Instr → Nat
  | .writeByte _ => 27
  | .ctrlWrite => 27
  | .digitSelect _ => 27
  | .rowData _ => 27
  | .reset => 2
  | .clear => 2 * 27
  | .setBrightness _ => 27
  | .getBrightness => 1
  | .setPeakCurrent _ => 27
  | .getPeakCurrent => 1
  | .writeGlyph d _ => if digitInRange d then 8 * 27 else 1
  | .reservedReq7 => 1
  | .reservedReq8F _ => 1

end Sys2Proof.Machine
end

