-- ==== Sys2Proof/Machine/Port.lean ====
section
/-! DEFINITION. What the outside world does to the block, one action at a time (R29, R151, R162, R163): this is where the
next operation comes from, the place a fetch has elsewhere (R16, R52). -/

namespace Sys2Proof.Machine

/-- The state after `rst_n` (R33, R162): every field at its power-on value, the outside world's later actions kept, and the
latches a fresh free value. -/
def State.powerOn (s : State) (rest : List HostAction) : State :=
  { State.reset with host := rest, freeCount := s.freeCount }.release

/-- A cycle in which nothing is presented to an idle block: only the one-cycle response pulse ends (R30, R158). -/
def State.wait (s : State) : State := { s with rspValid := false }

/-- Nothing the outside world does lets this step start an operation: the operation in progress goes on, or the block
waits. -/
def goOn (s : State) : Result := if s.busy then advance s else .next s.wait

/-- The code on the request port or in a direct call, taken from the outside world and run. A request is accepted by an idle
block and waits at the port of a busy one (R29); a direct call does not wait (R151). -/
def runCode (c : Code) (rest : List HostAction) (s : State) : Result :=
  match c with
  | .req w =>
    if s.reqReady then exec (decode (.req w)) (({ s with host := rest } : State).latchRequest w) else advance s
  | .wire b => exec (decode (.wire b)) { s with host := rest }

/-- One action of the outside world. -/
def react (a : HostAction) (rest : List HostAction) (s : State) : Result :=
  match a with
  | .call c => runCode c rest s
  | .assertRstN => if s.busy then .refused .abortMidOperation else .next (s.powerOn rest)
  | .foreignSet _ _ => .refused .foreignLineDriver

/-- The code a numbered word of spec/opcode_table.json stands for (the word cut to the format's width). -/
def tableCode (nbits w : Nat) : Code :=
  if nbits ≤ 8 then .wire (BitVec.ofNat 8 w) else .req (BitVec.ofNat 68 w)

/-- A code presented to an idle block as the very next thing the outside world does (log 9). -/
def State.present (c : Code) (s : State) : State :=
  { s with host := .call c :: s.host, busy := false, seq := .idle }

end Sys2Proof.Machine
end

