-- ==== Sys2Proof/Machine/Step.lean ====
section
/-! DEFINITION. One step: the outside world's next action, or one more phase of the operation in progress. -/

namespace Sys2Proof.Machine

/-- One step of the block (log 10, log 22). -/
def step (s : State) : Host.Outcome State Fault Refusal :=
  match s.host with
  | a :: rest => react a rest s
  | [] => goOn s

/-- The instruction of a numbered table word, placed where the next step takes its operation from. -/
def State.withFetchWord (s : State) (nbits w : Nat) : State := s.present (tableCode nbits w)

end Sys2Proof.Machine
end

