-- ==== Sys2Proof/Machine/HostText.lean ====
section
/-! DEFINITION. The host's text layer, 43_host_text_layer.md: outside the block (R3, R123), no part of State or step. It is
here because it decides which requests the block receives; `render` gives them as a list. Logging and the string formatting
itself are left out (R3). -/

namespace Sys2Proof.Machine

/-- One driver instance's display buffer and the font it looks glyphs up in (R125, R126). DESIGN CHOICE, log 18: the font
stands in the same record as the buffer, one font for each instance. In the source one table is shared by all instances; R125
and R137 leave per-instance or shared to the rewrite, and the model has one instance, for which the two agree. -/
structure HostText where
  buffer : List Byte
  font   : List (Byte × Glyph)
  deriving DecidableEq, Repr

/-- What `render` does for a character the font lacks: the host's choice, `FALLBACK` (R128). -/
inductive Fallback where
  | skip
  | replace (g : Glyph)
  deriving DecidableEq, Repr

/-- Eight blank cells (R126, R131). -/
def blankBuffer : List Byte := List.replicate Config.nDigits Config.blankChar

/-- The host's text layer at start-up (R125, R126). -/
def HostText.initial : HostText := { buffer := blankBuffer, font := Config.defaultFont }

/-- `lookup(char)` (R127). -/
def HostText.lookup (h : HostText) (c : Byte) : Option Glyph := h.font.lookup c

/-- Characters copied from `pos` on, stopping at the first index past the buffer; the next free position (R129). -/
def printInto (buf : List Byte) (pos : Nat) : List Byte → List Byte × Nat
  | [] => (buf, pos)
  | c :: cs => if pos < Config.nDigits then printInto (buf.set pos c) (pos + 1) cs else (buf, pos)

/-- `print(position, text)` (R129); it does not touch the hardware. -/
def HostText.print (h : HostText) (pos : Nat) (text : List Byte) : HostText × Nat :=
  ({ h with buffer := (printInto h.buffer pos text).1 }, (printInto h.buffer pos text).2)

/-- A formatted variant of `print` (R130), given what the formatter made: none where formatting failed, and then the buffer
is unchanged and the original position is returned. -/
def HostText.printFormatted (h : HostText) (pos : Nat) : Option (List Byte) → HostText × Nat
  | none => (h, pos)
  | some text => h.print pos text

/-- `BUF_CLEAR` (R131): every cell blank; no operation of the block. -/
def HostText.bufClear (h : HostText) : HostText := { h with buffer := blankBuffer }

/-- `set custom character` (R132): inserts or overwrites a font entry. -/
def HostText.setChar (h : HostText) (c : Byte) (g : Glyph) : HostText :=
  { h with font := (c, g) :: h.font.filter fun e => e.1 != c }

/-- The request for one cell (R133): one glyph write on a hit, the fallback on a miss. -/
def HostText.renderCell (h : HostText) (fb : Fallback) (pos : Nat) (c : Byte) : List Instr :=
  match h.lookup c, fb with
  | some g, _ => [.writeGlyph (BitVec.ofNat 8 pos) g]
  | none, .replace g => [.writeGlyph (BitVec.ofNat 8 pos) g]
  | none, .skip => []

/-- `render()` (R133): the cells in the order 0 to 7. -/
def HostText.render (h : HostText) (fb : Fallback) : List Instr :=
  h.buffer.zipIdx.flatMap fun e => h.renderCell fb e.2 e.1

end Sys2Proof.Machine
end

