-- ==== Sys2Proof/Safety.lean ====
section
/-! DEFINITION. The terms in which claims about the block speak (R6): the bytes a trace carries, the time it takes at least,
what an operation leaves behind, and the invariants of an idle block. Nothing here is read by the machine. -/

namespace Sys2Proof.Machine

/-! ## Reading a trace -/

/-- The byte whose bits, least significant first, are given (R41). -/
def byteOfBits : List Bool → Byte
  | [] => 0
  | b :: bs => (byteOfBits bs <<< 1) ||| (if b then 1 else 0)

/-- The byte is of the `CTRL` format (R54). -/
def isCtrl (c : Byte) : Bool := decide (c &&& 0xD0#8 = 0xC0#8)

/-- The three command formats (R54). -/
inductive WireFormat where
  | ctrl | dsel | row
  deriving DecidableEq, Repr

/-- The format of a decoded command byte; none for a byte that no operation emits. -/
def formatOf : WireCmd → Option WireFormat
  | .ctrl _ => some .ctrl
  | .dsel _ => some .dsel
  | .row _ => some .row
  | .notEmitted => none

/-- What a checker of the output trace knows after some events (R79: a byte is recovered from the levels of its
`Set(DATA, ·)` events). It reads `Set` events, not edges on the wires (R83). -/
structure Rx where
  /-- The level of the last `Set(DATA, ·)`. -/
  data     : Bool
  /-- The bits clocked since the last `Set(LOAD, 0)`. -/
  bits     : List Bool
  /-- The bytes latched by `Set(LOAD, 1)` so far, oldest first. -/
  bytes    : List Byte
  /-- `LAST_CTRL` of R28: the last byte of the `CTRL` format since the last reset pulse began. -/
  lastCtrl : Option Byte
  deriving DecidableEq, Repr

/-- Before any event. -/
def Rx.start : Rx := { data := false, bits := [], bytes := [], lastCtrl := none }

/-- `LAST_CTRL` after one more byte. -/
def nextCtrl (last : Option Byte) (b : Byte) : Option Byte := if isCtrl b then some b else last

/-- One more event. DESIGN CHOICE, log 23: a bit is taken at `Set(CLOCK, 1)`. On which edge the chip samples DATA is not in the
source (91_not_in_source.md N9, R81); in a frame DATA is the same at both edges of a pulse, so its byte does not depend on
it. -/
def Rx.onEvent (r : Rx) : Event → Rx
  | .set .data v => { r with data := v }
  | .set .clock true => { r with bits := r.bits ++ [r.data] }
  | .set .clock false => r
  | .set .load false => { r with bits := [] }
  | .set .load true =>
    { r with bytes := r.bytes ++ [byteOfBits r.bits], lastCtrl := nextCtrl r.lastCtrl (byteOfBits r.bits) }
  | .set .reset false => { r with lastCtrl := none }
  | .set .reset true => r
  | .wait _ => r

/-- Some more events. -/
def Rx.run (r : Rx) (es : List Event) : Rx := es.foldl Rx.onEvent r

/-- The bytes a trace carries. -/
def traceBytes (es : List Event) : List Byte := (Rx.start.run es).bytes

/-- The last control-register command of a trace since its last reset pulse (R28). -/
def traceLastCtrl (es : List Event) : Option Byte := (Rx.start.run es).lastCtrl

/-- The least time a list of events takes, for given lengths of the three delays (R178, R179), in any unit; with cycle
counts for lengths it is the number of cycles of R84 and R180. -/
def minTime (len : TimeParam → Nat) : List Event → Nat
  | [] => 0
  | .set _ _ :: es => minTime len es
  | .wait t :: es => len t + minTime len es

/-- The clock pulses of a list of events (R44). -/
def clockPulses (es : List Event) : Nat := es.countP fun e => decide (e = .set .clock true)

/-! ## What an operation sends and leaves -/

/-- The bytes an operation hands to `WRITE_BYTE` when it completes (R44, R71). -/
def bytesOf (s : State) : Instr → List Byte
  | .writeByte b => [b]
  | .ctrlWrite => [encCtrl s.mirror]
  | .digitSelect d => [encDsel d]
  | .rowData v => [encRow v]
  | .reset => []
  | .clear => [encCtrl (mirrorSetClear true s.mirror), encCtrl (mirrorSetClear false s.mirror)]
  | .setBrightness b => [encCtrl (mirrorSetBrightness b s.mirror)]
  | .getBrightness => []
  | .setPeakCurrent p => [encCtrl (mirrorSetPeak p s.mirror)]
  | .getPeakCurrent => []
  | .writeGlyph d g => if digitInRange d then glyphBytes d g else []
  | .reservedReq7 => []
  | .reservedReq8F _ => []

/-- The operations that read the mirror, by the name their fault carries (R150). -/
def readsMirror : Instr → Option MirrorOp
  | .writeByte _ => none
  | .ctrlWrite => some .ctrlWrite
  | .digitSelect _ => none
  | .rowData _ => none
  | .reset => none
  | .clear => some .clear
  | .setBrightness _ => some .setBrightness
  | .getBrightness => some .getBrightness
  | .setPeakCurrent _ => some .setPeakCurrent
  | .getPeakCurrent => some .getPeakCurrent
  | .writeGlyph _ _ => none
  | .reservedReq7 => none
  | .reservedReq8F _ => none

/-- How many frames an operation sends (the column "transport bytes" of R44). -/
def frameCount : Instr → Nat
  | .writeByte _ => 1
  | .ctrlWrite => 1
  | .digitSelect _ => 1
  | .rowData _ => 1
  | .reset => 0
  | .clear => 2
  | .setBrightness _ => 1
  | .getBrightness => 0
  | .setPeakCurrent _ => 1
  | .getPeakCurrent => 0
  | .writeGlyph d _ => if d ≤ 7 then 8 else 0
  | .reservedReq7 => 0
  | .reservedReq8F _ => 0

/-- Operation `i` completes from `s`: exec answers a next state that has appended exactly `es` to the trace, whose lines,
mirror and reset state are `ls`, `m` and `r`, in which no operation is in progress, and in which the outside world's actions
are as before. Only the latches, unspecified between operations (R33), and the response port are not described. -/
def Leaves (i : Instr) (s t : State) (es : List Event) (ls : Lines) (m : Mirror) (r : ResetState) : Prop :=
  exec i s = .next t ∧ t.trace = s.trace ++ es ∧ t.lines = ls ∧ t.mirror = m ∧ t.resetState = r ∧
    t.busy = false ∧ t.seq = .idle ∧ t.host = s.host

/-- A requested operation completes, with response `resp` (R30). -/
def Completes (i : Instr) (s : State) (es : List Event) (ls : Lines) (m : Mirror) (r : ResetState) (resp : Byte) : Prop :=
  ∃ t, Leaves i s t es ls m r ∧ t.rspValid = true ∧ t.rspData = resp

/-- A directly called internal operation completes: no response (R78). -/
def CompletesDirect (i : Instr) (s : State) (es : List Event) (ls : Lines) : Prop :=
  ∃ t, Leaves i s t es ls s.mirror s.resetState ∧ t.rspValid = false ∧ t.rspData = s.rspData

/-- The levels after a byte has been sent (R26): LOAD high, CLOCK low, DATA at bit 7 of the byte, RESET as before. -/
def linesAfterByte (ls : Lines) (b : Byte) : Lines := { data := b.getLsbD 7, clock := false, load := true, reset := ls.reset }

/-! ## Invariants of an idle block -/

/-- No operation is in progress. -/
def Idle (s : State) : Prop := s.busy = false ∧ s.seq = .idle

/-- The mirror invariant (R22, R120): once READY, `M.clear` is 0, and `M` is what the last control-register command since the
last reset said, or the hardware default where there has been none. -/
def MirrorInv (s : State) : Prop :=
  s.resetState = .ready →
    s.mirror.clear = false ∧
      (∀ b, traceLastCtrl s.trace = some b → b = encCtrl s.mirror) ∧
      (traceLastCtrl s.trace = none → s.mirror = mirrorDefault)

/-- The lines are the level view of the trace from `INIT_LINES` (R27). -/
def LevelView (s : State) : Prop := s.lines = levelsAfter Config.initLines s.trace

/-- The idle levels (R26). -/
def IdleLevels (s : State) : Prop :=
  (∀ b, (traceBytes s.trace).getLast? = some b →
    s.lines.load = true ∧ s.lines.clock = false ∧ s.lines.data = b.getLsbD 7) ∧
  (s.resetState = .ready → s.lines.reset = true)

end Sys2Proof.Machine
end

