-- ==== Sys2Proof/Certificates/Slice0/Obligations.lean ====
section
/-! DEFINITION. The statements for the provers, Slice0. Each docstring names the rule of spec/ it formalises. -/

open Sys2Proof Sys2Proof.Machine

/-! ## The transport -/

/-- R79: the shape of a frame. One `WRITE_BYTE b` appends exactly 51 events, 26 `Set`s and 25 waits, at fixed positions; the
byte is in the `Set(DATA, ·)` events, bit 0 first; there are eight CLOCK pulses. -/
def Obligations.FrameShape : Prop :=
  ∀ (b : Byte) (s : State), s.busy = false →
    ∃ t es, exec (.writeByte b) s = .next t ∧ t.trace = s.trace ++ es ∧ es.length = 51 ∧
      es[0]? = some (.set .load false) ∧
      (∀ i < 8,
        es[1 + 6 * i]? = some (.set .data (b.getLsbD i)) ∧ es[2 + 6 * i]? = some (.wait .phase) ∧
        es[3 + 6 * i]? = some (.set .clock true) ∧ es[4 + 6 * i]? = some (.wait .phase) ∧
        es[5 + 6 * i]? = some (.set .clock false) ∧ es[6 + 6 * i]? = some (.wait .phase)) ∧
      es[49]? = some (.set .load true) ∧ es[50]? = some (.wait .settle) ∧
      es.countP (fun e => decide (e = .wait .phase)) = 24 ∧ es.countP (fun e => decide (e = .wait .settle)) = 1 ∧
      clockPulses es = 8

/-- R77, R78: `WRITE_BYTE b`, called directly, completes for all 256 values in either reset state, sends one frame, leaves the
idle levels, and changes neither `M` nor `S` nor the RESET line. (After a direct call rsp_valid is 0 and rsp_data as it was:
the model's choice, log 8.) -/
def Obligations.WriteByteSendsOneFrame : Prop :=
  ∀ (b : Byte) (s : State), s.busy = false →
    CompletesDirect (.writeByte b) s (frameEvents b) (linesAfterByte s.lines b)

/-- R79, R41: a checker that reads a frame, from any point of a trace, recovers exactly the byte sent, and what it knows of
earlier bytes stays. -/
def Obligations.FrameCarriesItsByte : Prop :=
  ∀ (r : Rx) (b : Byte),
    r.run (frameEvents b) =
      { data := b.getLsbD 7, bits := (List.range 8).map b.getLsbD, bytes := r.bytes ++ [b], lastCtrl := nextCtrl r.lastCtrl b }

/-! ## The encodings -/

/-- R57, R55: `enc_ctrl` puts `1 1 C 0 P B B B` on the byte, C the inverse of `clear`, P at bit 3; the byte determines the
mirror; the mirror after `RESET` gives 0xE0. P at bit 3 is the spec's resolution of a conflict (log 6). -/
def Obligations.CtrlCommandLayout : Prop :=
  (∀ m : Mirror,
    (encCtrl m).getLsbD 7 = true ∧ (encCtrl m).getLsbD 6 = true ∧ (encCtrl m).getLsbD 5 = !m.clear ∧
    (encCtrl m).getLsbD 4 = false ∧ (encCtrl m).getLsbD 3 = m.pcl ∧ (encCtrl m).extractLsb' 0 3 = m.br) ∧
  (∀ m n : Mirror, encCtrl m = encCtrl n → m = n) ∧
  encCtrl { clear := false, pcl := false, br := 0 } = 0xE0#8

/-- R61: `enc_row` keeps the low five bits, never makes a byte of another format, is the identity on 0x00 to 0x1F, and takes
each of its 32 results from eight inputs. -/
def Obligations.RowCommandMasks : Prop :=
  (∀ v : Byte,
    encRow v = v &&& 0x1F#8 ∧ (encRow v).toNat ≤ 0x1F ∧ (encRow v &&& 0xD0#8 ≠ 0xC0#8) ∧ (encRow v &&& 0xF8#8 ≠ 0xA0#8) ∧
    (v.toNat ≤ 0x1F → encRow v = v)) ∧
  ∀ r < 32, ((List.range 256).countP fun n => decide (encRow (BitVec.ofNat 8 n) = BitVec.ofNat 8 r)) = 8

/-- R69: the checker of command bytes: its three tests in order, total on all 256 values, and what each of the three encoding
functions wrote is read back. -/
def Obligations.CommandBytesDecodeBack : Prop :=
  (∀ c : Byte,
    (c &&& 0xD0#8 = 0xC0#8 → decodeByte c = .ctrl { clear := !c.getLsbD 5, pcl := c.getLsbD 3, br := c.setWidth 3 }) ∧
    (c &&& 0xF8#8 = 0xA0#8 → decodeByte c = .dsel (c.setWidth 3)) ∧
    (c &&& 0xE0#8 = 0x00#8 → decodeByte c = .row (c.setWidth 5)) ∧
    (c &&& 0xD0#8 ≠ 0xC0#8 → c &&& 0xF8#8 ≠ 0xA0#8 → c &&& 0xE0#8 ≠ 0x00#8 → decodeByte c = .notEmitted)) ∧
  (∀ m : Mirror, decodeByte (encCtrl m) = .ctrl m) ∧
  (∀ d : Byte, d ≤ 7 → decodeByte (encDsel d) = .dsel (d.setWidth 3)) ∧
  (∀ v : Byte, decodeByte (encRow v) = .row ((v &&& 0x1F#8).setWidth 5))

/-- R40: how many of the 256 byte values the checker reads as each row of the map of the command space, and that each row is
the match and mask the map gives it. -/
def Obligations.CommandSpaceCounts : Prop :=
  (∀ c : Byte,
    (formatOf (decodeByte c) = some .ctrl ↔ c &&& 0xD0#8 = 0xC0#8) ∧
    (formatOf (decodeByte c) = some .dsel ↔ c &&& 0xF8#8 = 0xA0#8) ∧
    (formatOf (decodeByte c) = some .row ↔ c &&& 0xE0#8 = 0x00#8)) ∧
  ((List.range 256).countP fun n => decide (formatOf (decodeByte (BitVec.ofNat 8 n)) = some .ctrl)) = 32 ∧
  ((List.range 256).countP fun n => decide (formatOf (decodeByte (BitVec.ofNat 8 n)) = some .dsel)) = 8 ∧
  ((List.range 256).countP fun n => decide (formatOf (decodeByte (BitVec.ofNat 8 n)) = some .row)) = 32 ∧
  ((List.range 256).countP fun n => decide (decodeByte (BitVec.ofNat 8 n) = .notEmitted)) = 184

/-- R66: the operation code selects the operation, for every request word; the scalar operand and the glyph come from the
word's fields; no request names an internal operation. -/
def Obligations.RequestCodes : Prop :=
  ∀ w : BitVec 68,
    (reqOp w = 0x0#4 → decode (.req w) = .reset) ∧
    (reqOp w = 0x1#4 → decode (.req w) = .clear) ∧
    (reqOp w = 0x2#4 → decode (.req w) = .setBrightness (reqA w)) ∧
    (reqOp w = 0x3#4 → decode (.req w) = .getBrightness) ∧
    (reqOp w = 0x4#4 → decode (.req w) = .setPeakCurrent (reqA w)) ∧
    (reqOp w = 0x5#4 → decode (.req w) = .getPeakCurrent) ∧
    (reqOp w = 0x6#4 → decode (.req w) = .writeGlyph (reqA w) (reqG w)) ∧
    (reqOp w = 0x7#4 → decode (.req w) = .reservedReq7) ∧
    (0x8#4 ≤ reqOp w → decode (.req w) = .reservedReq8F (w.extractLsb' 64 3)) ∧
    (decode (.req w)).hostVisible = true

/-- Words written out from R54 and R65 decode to the instructions they stand for. That a `REQ68` word is numbered with 72
bits, whole bytes, is the model's (log 24); which `WIRE8` row a byte names is too (log 7). -/
def Obligations.SampleWordsDecode : Prop :=
  decodeTableWord 8 0b11101000 = some .ctrlWrite ∧
  decodeTableWord 8 0b10100011 = some (.digitSelect 3) ∧
  decodeTableWord 8 0b00010101 = some (.rowData 0x15) ∧
  decodeTableWord 8 0b01111111 = some (.writeByte 0x7F) ∧
  decodeTableWord 72 0x00000000000000000 = some .reset ∧
  decodeTableWord 72 0x20500000000000000 = some (.setBrightness 5) ∧
  decodeTableWord 72 0x6021111111F11110E = some (.writeGlyph 2 ⟨0x0E, 0x11, 0x11, 0x1F, 0x11, 0x11, 0x11⟩) ∧
  decodeTableWord 72 0xFFFFFFFFFFFFFFFFF = some (.reservedReq8F 7)

/-- Decode and encode agree, R54 to R61 and R65 to R67: every instruction, with every operand its encoding admits, is read
back from its code. (Which `WIRE8` row a byte names where several match is the model's choice, log 7.) -/
def Obligations.DecodeEncode : Prop :=
  ∀ i : Instr, i.encodable = true → decode (encode i) = i

/-- The other direction: a glyph request and every byte that is no control command are encoded back to themselves, so no bit
of them is dropped. -/
def Obligations.EncodeDecode : Prop :=
  (∀ w : BitVec 68, reqOp w = 0x6#4 → encode (decode (.req w)) = .req w) ∧
  (∀ c : Byte, (c &&& 0xD0#8 ≠ 0xC0#8) → encode (decode (.wire c)) = .wire c)

/-- R65: ignored request fields may hold anything. Two words with the same code, and with the same operand fields where the
operation uses them, name the same operation. -/
def Obligations.IgnoredFieldsIgnored : Prop :=
  ∀ w v : BitVec 68, reqOp w = reqOp v →
    (reqOp w = 0x2#4 ∨ reqOp w = 0x4#4 ∨ reqOp w = 0x6#4 → reqA w = reqA v) →
    (reqOp w = 0x6#4 → reqG w = reqG v) →
    decode (.req w) = decode (.req v)

/-! ## The encoder's operations -/

/-- R88: `CTRL_WRITE`, called directly once READY, sends the command of the mirror, whose bits 7, 6, 4 are 1, 1, 0, and
changes neither `M` nor S nor the RESET line; before the first `RESET` it is the fault `PreconditionViolated`. (After a direct call
rsp_valid is 0 and rsp_data as it was: the model's choice, log 8.) -/
def Obligations.CtrlWriteSendsMirror : Prop :=
  (∀ s : State, s.busy = false → s.resetState = .ready →
    CompletesDirect .ctrlWrite s (frameEvents (encCtrl s.mirror)) (linesAfterByte s.lines (encCtrl s.mirror))) ∧
  (∀ s : State, s.busy = false → s.resetState = .unreset →
    exec .ctrlWrite s = .fault (.preconditionViolated .ctrlWrite)) ∧
  ∀ m : Mirror, encCtrl m &&& 0xD0#8 = 0xC0#8 ∧ (m.clear = true → (encCtrl m).getLsbD 5 = false)

/-- R90, R59: `DIGIT_SELECT d` for d ≤ 7, called directly in either reset state, sends 0xA0 + d and changes
neither `M` nor S nor the RESET line. (After a direct call rsp_valid is 0 and rsp_data as it was: the model's choice, log 8.) -/
def Obligations.DigitSelectSendsDigit : Prop :=
  ∀ (d : Byte) (s : State), s.busy = false → d ≤ 7 →
    CompletesDirect (.digitSelect d) s (frameEvents (0xA0#8 + d)) (linesAfterByte s.lines (0xA0#8 + d))

/-- R91, R151: `DIGIT_SELECT d` with d > 7, called directly, is refused by name. -/
def Obligations.DigitSelectRefusesLargeDigit : Prop :=
  ∀ (d : Byte) (s : State), s.busy = false → 7 < d →
    exec (.digitSelect d) s = .refused (.digitSelectOutOfRange d)

/-- R92: `ROW_DATA v`, called directly in either reset state, sends the low five bits of v and changes neither
`M` nor S nor the RESET line. (After a direct call rsp_valid is 0 and rsp_data as it was: the model's choice, log 8.) -/
def Obligations.RowDataSendsLowFiveBits : Prop :=
  ∀ (v : Byte) (s : State), s.busy = false →
    CompletesDirect (.rowData v) s (frameEvents (v &&& 0x1F#8)) (linesAfterByte s.lines (v &&& 0x1F#8))

/-- R94: `WRITE_GLYPH d, g` for d ≤ 7, in either reset state, sends the digit select and the seven masked rows in row
order, one frame after the other, and changes neither `M` nor `S`; for d > 7 it sends nothing and changes nothing; response 0
in both cases; its request code is 0x6. -/
def Obligations.WriteGlyphSendsSelectAndSevenRows : Prop :=
  (∀ (d : Byte) (g : Glyph) (s : State), s.busy = false → 7 < d →
    Completes (.writeGlyph d g) s [] s.lines s.mirror s.resetState 0) ∧
  (∀ w : BitVec 68, reqOp w = 0x6#4 → decode (.req w) = .writeGlyph (reqA w) (reqG w)) ∧
  ∀ (d : Byte) (g : Glyph) (s : State), s.busy = false → d ≤ 7 →
    Completes (.writeGlyph d g) s
      (frameEvents (0xA0#8 ||| d) ++ frameEvents (g.r0 &&& 0x1F#8) ++ frameEvents (g.r1 &&& 0x1F#8) ++
        frameEvents (g.r2 &&& 0x1F#8) ++ frameEvents (g.r3 &&& 0x1F#8) ++ frameEvents (g.r4 &&& 0x1F#8) ++
        frameEvents (g.r5 &&& 0x1F#8) ++ frameEvents (g.r6 &&& 0x1F#8))
      (linesAfterByte s.lines (g.r6 &&& 0x1F#8)) s.mirror s.resetState 0

/-- R95, R141: for d > 7 `WRITE_GLYPH` completes having sent nothing and changed nothing, with the response of an accepted
write. -/
def Obligations.WriteGlyphDropsLargeDigit : Prop :=
  ∀ (d : Byte) (g : Glyph) (s : State), s.busy = false → 7 < d →
    Completes (.writeGlyph d g) s [] s.lines s.mirror s.resetState 0

/-- R97: the trace of an accepted `WRITE_GLYPH` has 408 events, 64 clock pulses and 8 low intervals of LOAD, its frames carry the
digit select and the masked rows in order, and it takes at least 8 frames' time. -/
def Obligations.WriteGlyphTraceShape : Prop :=
  ∀ (d : Byte) (g : Glyph) (s t : State) (len : TimeParam → Nat), d ≤ 7 → exec (.writeGlyph d g) s = .next t →
    ∃ es, t.trace = s.trace ++ es ∧ es.length = 408 ∧ clockPulses es = 64 ∧
      es.countP (fun e => decide (e = .set .load false)) = 8 ∧
      es = [0xA0#8 ||| d, g.r0 &&& 0x1F#8, g.r1 &&& 0x1F#8, g.r2 &&& 0x1F#8, g.r3 &&& 0x1F#8, g.r4 &&& 0x1F#8,
        g.r5 &&& 0x1F#8, g.r6 &&& 0x1F#8].flatMap frameEvents ∧
      minTime len es = 8 * (24 * len .phase + len .settle)

/-! ## The control operations -/

/-- R102: `RESET`, request code 0x0, in either reset state, emits the four events on the RESET line and no other, sets the
mirror to the hardware defaults whatever it was, and S to READY; response 0. -/
def Obligations.ResetPulsesAndSetsDefaults : Prop :=
  (∀ w : BitVec 68, reqOp w = 0x0#4 → decode (.req w) = .reset) ∧
  ∀ s : State, s.busy = false →
    Completes .reset s [.set .reset false, .wait .reset, .set .reset true, .wait .reset]
      { s.lines with reset := true } { clear := false, pcl := false, br := 0 } .ready 0

/-- R105: `CLEAR`, request code 0x1, once READY, sends the control command with bit 5 cleared and then with bit 5 set, leaves
`M.clear` 0 and the other fields as they were; response 0; before the first `RESET` it is the fault `PreconditionViolated`. -/
def Obligations.ClearPulsesBitFive : Prop :=
  (∀ w : BitVec 68, reqOp w = 0x1#4 → decode (.req w) = .clear) ∧
  (∀ s : State, s.busy = false → s.resetState = .unreset → exec .clear s = .fault (.preconditionViolated .clear)) ∧
  ∀ s : State, s.busy = false → s.resetState = .ready →
    Completes .clear s (frameEvents (encCtrl s.mirror &&& 0xDF#8) ++ frameEvents (encCtrl s.mirror ||| 0x20#8))
      { data := true, clock := false, load := true, reset := s.lines.reset }
      { s.mirror with clear := false } .ready 0

/-- R108: `SET_BRIGHTNESS b`, request code 0x2, once READY, sets `M.br` to 7 - (b and 7) and no other field, and sends one
control command of the new mirror, whatever it was before; response 0; before the first `RESET` it is the fault
`PreconditionViolated`. -/
def Obligations.SetBrightnessWritesFieldAndChip : Prop :=
  (∀ w : BitVec 68, reqOp w = 0x2#4 → decode (.req w) = .setBrightness (reqA w)) ∧
  (∀ (b : Byte) (s : State), s.busy = false → s.resetState = .unreset →
    exec (.setBrightness b) s = .fault (.preconditionViolated .setBrightness)) ∧
  ∀ (b : Byte) (s : State), s.busy = false → s.resetState = .ready →
    ∃ m : Mirror, m.br.toNat = 7 - b.toNat % 8 ∧ m.clear = s.mirror.clear ∧ m.pcl = s.mirror.pcl ∧
      Completes (.setBrightness b) s (frameEvents (encCtrl m)) (linesAfterByte s.lines (encCtrl m)) m .ready 0

/-- R111: `GET_BRIGHTNESS`, request code 0x3, once READY, responds 7 - M.br, emits nothing and changes nothing; before the
first `RESET` it is the fault `PreconditionViolated`. -/
def Obligations.GetBrightnessReadsMirror : Prop :=
  (∀ w : BitVec 68, reqOp w = 0x3#4 → decode (.req w) = .getBrightness) ∧
  (∀ s : State, s.busy = false → s.resetState = .unreset →
    exec .getBrightness s = .fault (.preconditionViolated .getBrightness)) ∧
  ∀ s : State, s.busy = false → s.resetState = .ready →
    ∃ v : Byte, v.toNat = 7 - s.mirror.br.toNat ∧ Completes .getBrightness s [] s.lines s.mirror .ready v

/-- R113: `SET_PEAK_CURRENT p`, request code 0x4, once READY, sets `M.pcl` to bit 0 of p and no other field, and sends one
control command of the new mirror, whatever it was before; response 0; before the first `RESET` it is the fault
`PreconditionViolated`. (The polarity of the operand is the spec's own decision, R114, log 19.) -/
def Obligations.SetPeakCurrentWritesFieldAndChip : Prop :=
  (∀ w : BitVec 68, reqOp w = 0x4#4 → decode (.req w) = .setPeakCurrent (reqA w)) ∧
  (∀ (p : Byte) (s : State), s.busy = false → s.resetState = .unreset →
    exec (.setPeakCurrent p) s = .fault (.preconditionViolated .setPeakCurrent)) ∧
  ∀ (p : Byte) (s : State), s.busy = false → s.resetState = .ready →
    ∃ m : Mirror, m = { s.mirror with pcl := decide (p.toNat % 2 = 1) } ∧
      Completes (.setPeakCurrent p) s (frameEvents (encCtrl m)) (linesAfterByte s.lines (encCtrl m)) m .ready 0

/-- R116: `GET_PEAK_CURRENT`, request code 0x5, once READY, responds `M.pcl` as 0 or 1, emits nothing and changes nothing;
before the first `RESET` it is the fault `PreconditionViolated`. -/
def Obligations.GetPeakCurrentReadsMirror : Prop :=
  (∀ w : BitVec 68, reqOp w = 0x5#4 → decode (.req w) = .getPeakCurrent) ∧
  (∀ s : State, s.busy = false → s.resetState = .unreset →
    exec .getPeakCurrent s = .fault (.preconditionViolated .getPeakCurrent)) ∧
  ∀ s : State, s.busy = false → s.resetState = .ready →
    Completes .getPeakCurrent s [] s.lines s.mirror .ready (if s.mirror.pcl then 1 else 0)

/-- R67: a request with a reserved code, 0x7 to 0xF, in either reset state, is a no-operation with response 0. -/
def Obligations.ReservedRequestsAreNoOperations : Prop :=
  ∀ s : State, s.busy = false →
    Completes .reservedReq7 s [] s.lines s.mirror s.resetState 0 ∧
    (∀ lo : BitVec 3, Completes (.reservedReq8F lo) s [] s.lines s.mirror s.resetState 0) ∧
    ∀ w : BitVec 68, 0x7#4 ≤ reqOp w → Completes (decode (.req w)) s [] s.lines s.mirror s.resetState 0

/-- R112: the brightness round trip. After `SET_BRIGHTNESS b`, `GET_BRIGHTNESS` responds b and 7, which is b for b in 0 to 7. -/
def Obligations.BrightnessRoundTrip : Prop :=
  ∀ (b : Byte) (s : State), s.busy = false → s.resetState = .ready →
    ∃ t u, exec (.setBrightness b) s = .next t ∧ exec .getBrightness t = .next u ∧ u.rspData = b &&& 7#8 ∧
      (b ≤ 7 → u.rspData = b)

/-- R113, R116: after `SET_PEAK_CURRENT p`, `GET_PEAK_CURRENT` responds bit 0 of p. -/
def Obligations.PeakCurrentRoundTrip : Prop :=
  ∀ (p : Byte) (s : State), s.busy = false → s.resetState = .ready →
    ∃ t u, exec (.setPeakCurrent p) s = .next t ∧ exec .getPeakCurrent t = .next u ∧ u.rspData = p &&& 1#8

/-- R104, R111, R116: after `RESET`, from any idle state, `GET_BRIGHTNESS` responds 7 and `GET_PEAK_CURRENT` responds 0: earlier
settings are gone. -/
def Obligations.ResetForgetsSettings : Prop :=
  ∀ s : State, s.busy = false →
    ∃ t u v, exec .reset s = .next t ∧ exec .getBrightness t = .next u ∧ exec .getPeakCurrent t = .next v ∧
      u.rspData = 7 ∧ v.rspData = 0

/-- R165: the order in which brightness and peak current are reapplied does not matter: both orders complete, leave the same
mirror, and send the same last control command. -/
def Obligations.ReapplyOrderIrrelevant : Prop :=
  ∀ (b p : Byte) (s : State), s.busy = false → s.resetState = .ready →
    ∃ t u t' u', exec (.setPeakCurrent p) s = .next t ∧ exec (.setBrightness b) t = .next u ∧
      exec (.setBrightness b) s = .next t' ∧ exec (.setPeakCurrent p) t' = .next u' ∧
      u.mirror = u'.mirror ∧ u.lines = u'.lines ∧ traceLastCtrl u.trace = some (encCtrl u.mirror) ∧
      traceLastCtrl u'.trace = some (encCtrl u.mirror)

/-! ## Faults and refusals -/

/-- R150: the fault `PreconditionViolated(op)` is raised exactly by the operations that read the mirror, by an idle block whose
S is UNRESET, with the operation's own name; no other fault exists. -/
def Obligations.PreconditionFault : Prop :=
  ∀ (i : Instr) (s : State) (f : Fault),
    exec i s = .fault f ↔
      s.busy = false ∧ s.resetState = .unreset ∧ ∃ op, readsMirror i = some op ∧ f = .preconditionViolated op

/-- R151, R169: no operation starts while another is in progress. -/
def Obligations.NoConcurrentInvocation : Prop :=
  ∀ (i : Instr) (s : State), s.busy = true → exec i s = .refused .concurrentInvocation

/-- R94, R99, R102, R67, R78, R88, R90, R92, R150: when an operation started by an idle block completes: always, but for a
mirror-reading operation before the first `RESET` and a directly called digit select above 7. -/
def Obligations.CompletesExactlyWhen : Prop :=
  ∀ (i : Instr) (s : State), s.busy = false →
    ((∃ t, exec i s = .next t) ↔
      (i.wellFormed = true ∧ (s.resetState = .ready ∨ readsMirror i = none)))

/-! ## What every operation does and leaves -/

/-- R44, R71, R79: when an operation completes, the trace carries the bytes of the operation after those it carried before:
nothing is dropped, merged or repeated, and as many as the table of R44 says, eight clock pulses each. -/
def Obligations.OperationSendsItsBytes : Prop :=
  ∀ (i : Instr) (s t : State), exec i s = .next t →
    traceBytes t.trace = traceBytes s.trace ++ bytesOf s i ∧ (bytesOf s i).length = frameCount i ∧
    clockPulses t.trace = clockPulses s.trace + 8 * frameCount i

/-- R100: closure. Every byte a host-visible operation sends, for all operands and states, is in one of the three formats;
`CTRL_WRITE` sends a byte of the CTRL format, a digit select with d ≤ 7 one of 0xA0 to 0xA7, a row one of 0x00 to 0x1F. -/
def Obligations.EncoderClosure : Prop :=
  (∀ (i : Instr) (s t : State), i.hostVisible = true → exec i s = .next t →
    ∃ bs, traceBytes t.trace = traceBytes s.trace ++ bs ∧ ∀ b ∈ bs, decodeByte b ≠ .notEmitted) ∧
  (∀ s t : State, exec .ctrlWrite s = .next t →
    ∃ b, traceBytes t.trace = traceBytes s.trace ++ [b] ∧ b &&& 0xD0#8 = 0xC0#8) ∧
  (∀ (d : Byte) (s t : State), exec (.digitSelect d) s = .next t →
    ∃ b, traceBytes t.trace = traceBytes s.trace ++ [b] ∧ 0xA0#8 ≤ b ∧ b ≤ 0xA7#8) ∧
  (∀ (v : Byte) (s t : State), exec (.rowData v) s = .next t →
    ∃ b, traceBytes t.trace = traceBytes s.trace ++ [b] ∧ b ≤ 0x1F#8)

/-- R179: the least time of each operation that completes, for all lengths of the three delays. -/
def Obligations.LeastTimes : Prop :=
  ∀ (i : Instr) (s t : State) (len : TimeParam → Nat), exec i s = .next t →
    ∃ es, t.trace = s.trace ++ es ∧
      minTime len es = if i = .reset then 2 * len .reset else frameCount i * (24 * len .phase + len .settle)

/-- R25: the RESET line is written only by `RESET`; DATA, CLOCK and LOAD only by operations that send a byte, and `RESET` sends
none. -/
def Obligations.LineWriters : Prop :=
  ∀ (i : Instr) (s t : State), exec i s = .next t →
    (i ≠ .reset → t.lines.reset = s.lines.reset) ∧
    (frameCount i = 0 →
      t.lines.data = s.lines.data ∧ t.lines.clock = s.lines.clock ∧ t.lines.load = s.lines.load)

/-- R18: who writes the mirror. `RESET` writes all three fields, `CLEAR` leaves `M.clear` 0, `SET_BRIGHTNESS` writes `M.br`,
`SET_PEAK_CURRENT` writes `M.pcl`; every other field of every operation stays. -/
def Obligations.MirrorWriters : Prop :=
  ∀ (i : Instr) (s t : State), exec i s = .next t →
    (i = .reset → t.mirror = { clear := false, pcl := false, br := 0 }) ∧
    (i = .clear → t.mirror = { s.mirror with clear := false }) ∧
    (∀ b, i = .setBrightness b → t.mirror = { s.mirror with br := t.mirror.br } ∧ t.mirror.br.toNat = 7 - b.toNat % 8) ∧
    (∀ p, i = .setPeakCurrent p → t.mirror = { s.mirror with pcl := p.getLsbD 0 }) ∧
    (i ≠ .reset → i ≠ .clear → (∀ b, i ≠ .setBrightness b) → (∀ p, i ≠ .setPeakCurrent p) → t.mirror = s.mirror)

/-- R24: the transitions of S. It is UNRESET at power-on, `RESET` makes it READY from either value, every other operation
leaves it; during the reset sequence S keeps its old value until the last action. -/
def Obligations.ResetStateTransitions : Prop :=
  State.reset.resetState = .unreset ∧
  (∀ s : State, s.busy = false → ∃ t, exec .reset s = .next t ∧ t.resetState = .ready) ∧
  (∀ (i : Instr) (s t : State), i ≠ .reset → exec i s = .next t → t.resetState = s.resetState) ∧
  (∀ s : State, s.seq = .rstLow → (tick s).resetState = s.resetState)

/-! ## Steps -/

/-- R29: an idle block that is presented a request accepts it and runs the operation its word names, with the operands
latched (how requests come to the model: log 9). -/
def Obligations.StepRunsRequest : Prop :=
  ∀ (s : State) (w : BitVec 68) (rest : List HostAction), s.busy = false → s.host = .call (.req w) :: rest →
    step s = exec (decode (.req w)) (({ s with host := rest } : State).latchRequest w)

/-- R4, R150: a direct call of an internal operation runs the operation its byte names (log 7, log 8). -/
def Obligations.StepRunsDirectCall : Prop :=
  ∀ (s : State) (b : Byte) (rest : List HostAction), s.host = .call (.wire b) :: rest →
    step s = exec (decode (.wire b)) { s with host := rest }

/-- R16, R29, R150: with nothing on the port, or with a request presented while BUSY = 1, a step of a busy block is the next
phase of the operation in progress (log 10); the request is not accepted and stays at the port. The fault of R150 is the one
exception: an operation in progress that reads the mirror, in a block still UNRESET (log 11). -/
def Obligations.RequestWaitsWhileBusy : Prop :=
  ∀ s : State, s.busy = true → (s.host = [] ∨ ∃ w rest, s.host = .call (.req w) :: rest) →
    (latchedMirrorOp s = none ∨ s.resetState = .ready → step s = .next (tick s) ∧ (tick s).host = s.host) ∧
    ∀ op, latchedMirrorOp s = some op → s.resetState = .unreset → step s = .fault (.preconditionViolated op)

/-- R30, R158: an idle block to which nothing is presented stays as it is, but for the end of the response pulse. That such a
step exists is the model's own (log 22). -/
def Obligations.IdleBlockWaits : Prop :=
  ∀ s : State, s.busy = false → s.host = [] → step s = .next { s with rspValid := false }

/-- R163, R151: `rst_n` asserted while BUSY = 1 is refused by name; an idle block is returned to its power-on state (R33, R162;
that it may be asserted again at all while idle is the model's reading, log 13). -/
def Obligations.PowerOnReset : Prop :=
  ∀ (s : State) (rest : List HostAction), s.host = .assertRstN :: rest →
    (s.busy = true → step s = .refused .abortMidOperation) ∧
    (s.busy = false → ∃ t, step s = .next t ∧ t.resetState = .unreset ∧ t.trace = [] ∧ t.busy = false ∧ t.seq = .idle ∧
      t.reqReady = true ∧ t.lines = Config.initLines ∧ t.host = rest)

/-- R151, R174: an agent that drives a line is refused by name, whatever the block is doing (how it comes to the model: log 12). -/
def Obligations.ForeignDriverRefused : Prop :=
  ∀ (s : State) (l : Line) (v : Bool) (rest : List HostAction), s.host = .foreignSet l v :: rest →
    step s = .refused .foreignLineDriver

/-- R33, R162: what the spec states of the state after power-on. -/
def Obligations.PowerOnValues : Prop :=
  State.reset.resetState = .unreset ∧ State.reset.busy = false ∧ State.reset.seq = .idle ∧ State.reset.trace = [] ∧
    State.reset.reqReady = true ∧ State.reset.lines = Config.initLines

/-- R48: a step only appends to the trace, but for a power-on reset. -/
def Obligations.TraceOnlyGrows : Prop :=
  ∀ s t : State, step s = .next t → (∀ rest, s.host ≠ .assertRstN :: rest) → s.trace <+: t.trace

/-! ## Invariants that every step keeps -/

/-- R22, R119, R120: the mirror invariant, and `M.clear` 0, is kept by every step of an idle block. Direct calls by byte are
included because a byte of the control format names `CTRL_WRITE` and never `WRITE_BYTE`, the model's choice (log 7); what
`WRITE_BYTE` of such a byte does to the invariant (R177) is `WriteByteCanBreakMirrorInvariant`. -/
def Obligations.MirrorInvariantKept : Prop :=
  ∀ s t : State, Idle s → MirrorInv s → step s = .next t → Idle t ∧ MirrorInv t

/-- The state after power-on is idle and meets the mirror invariant, the level view and the idle levels. -/
def Obligations.PowerOnMeetsInvariants : Prop :=
  Idle State.reset ∧ MirrorInv State.reset ∧ LevelView State.reset ∧ IdleLevels State.reset

/-- R27: the lines are the level view of the trace, in every step, of a busy block too. -/
def Obligations.LevelViewKept : Prop :=
  ∀ s t : State, LevelView s → step s = .next t → LevelView t

/-- R26: the idle levels are kept by every step of an idle block. -/
def Obligations.IdleLevelsKept : Prop :=
  ∀ s t : State, Idle s → IdleLevels s → step s = .next t → Idle t ∧ IdleLevels t

/-! ## The sequencer -/

/-- R16, R29, R14, R15: the sequencer carries out a request (its division into phases: log 21). From acceptance, phase by phase, out of the operand latches and
the transfer registers, it reaches exactly the state that `exec` gives in one atomic step, and BUSY is 1 all the while. -/
def Obligations.SequencerCarriesOutRequest : Prop :=
  ∀ (w : BitVec 68) (s t : State), s.busy = false → exec (decode (.req w)) (s.latchRequest w) = .next t →
    Nat.iterate tick (ticksOf (decode (.req w))) (s.accept w) = t ∧
    ∀ k < ticksOf (decode (.req w)), (Nat.iterate tick k (s.accept w)).busy = true

/-! ## The host's text layer (outside the block, R3) -/

/-- R129: `print` copies characters from `pos` on, stops at the end of the buffer, returns the next free position, and leaves
every other cell and the font alone. -/
def Obligations.PrintStopsAtBufferEnd : Prop :=
  ∀ (h : HostText) (pos : Nat) (text : List Byte), h.buffer.length = 8 → pos ≤ 8 →
    (h.print pos text).2 = min 8 (pos + text.length) ∧
    (h.print pos text).1.font = h.font ∧ (h.print pos text).1.buffer.length = 8 ∧
    ∀ i < 8, (h.print pos text).1.buffer[i]? =
      if pos ≤ i ∧ i < pos + text.length then text[i - pos]? else h.buffer[i]?

/-- R133: `render` with eight hits is eight glyph writes, positions 0 to 7 in order; with misses it is never more, and every
request is a glyph write to an existing digit. -/
def Obligations.RenderWritesGlyphs : Prop :=
  ∀ (h : HostText) (fb : Fallback), h.buffer.length = 8 →
    (h.render fb).length ≤ 8 ∧
    (∀ i ∈ h.render fb, ∃ d g, i = .writeGlyph d g ∧ d ≤ 7) ∧
    ∀ f : Nat → Glyph, (∀ i < 8, ∃ c, h.buffer[i]? = some c ∧ h.lookup c = some (f i)) →
      h.render fb = (List.range 8).map fun i => .writeGlyph (BitVec.ofNat 8 i) (f i)

/-! ## The control register behind the mirror's back -/

/-- R177, R22: `WRITE_BYTE c`, called directly once READY, breaks the mirror invariant when c is of the `CTRL` format and not
the command of the mirror; it keeps the invariant when c is of another format or is that command. -/
def Obligations.WriteByteCanBreakMirrorInvariant : Prop :=
  ∀ (c : Byte) (s : State), s.busy = false → s.resetState = .ready →
    ∃ t, exec (.writeByte c) s = .next t ∧
      (c &&& 0xD0#8 = 0xC0#8 → c ≠ encCtrl s.mirror → ¬ MirrorInv t) ∧
      (c &&& 0xD0#8 ≠ 0xC0#8 ∨ c = encCtrl s.mirror → MirrorInv s → MirrorInv t)
end

