-- ==== Sys2Proof/Laws/State.lean ====
section
/-! SUPPORT. One lemma per field per update of State, true by rfl, so that no later proof unfolds a record update. -/

namespace Sys2Proof.Machine

/-! ### emit -/

@[simp] theorem State.emit_mirror (es : List Event) (s : State) : (s.emit es).mirror = s.mirror := rfl
@[simp] theorem State.emit_resetState (es : List Event) (s : State) : (s.emit es).resetState = s.resetState := rfl
@[simp] theorem State.emit_lines (es : List Event) (s : State) : (s.emit es).lines = levelsAfter s.lines es := rfl
@[simp] theorem State.emit_trace (es : List Event) (s : State) : (s.emit es).trace = s.trace ++ es := rfl
@[simp] theorem State.emit_busy (es : List Event) (s : State) : (s.emit es).busy = s.busy := rfl
@[simp] theorem State.emit_seq (es : List Event) (s : State) : (s.emit es).seq = s.seq := rfl
@[simp] theorem State.emit_latches (es : List Event) (s : State) : (s.emit es).latches = s.latches := rfl
@[simp] theorem State.emit_rspValid (es : List Event) (s : State) : (s.emit es).rspValid = s.rspValid := rfl
@[simp] theorem State.emit_rspData (es : List Event) (s : State) : (s.emit es).rspData = s.rspData := rfl
@[simp] theorem State.emit_host (es : List Event) (s : State) : (s.emit es).host = s.host := rfl
@[simp] theorem State.emit_freeCount (es : List Event) (s : State) : (s.emit es).freeCount = s.freeCount := rfl

/-! ### setMirror -/

@[simp] theorem State.setMirror_mirror (m : Mirror) (s : State) : (s.setMirror m).mirror = m := rfl
@[simp] theorem State.setMirror_resetState (m : Mirror) (s : State) : (s.setMirror m).resetState = s.resetState := rfl
@[simp] theorem State.setMirror_lines (m : Mirror) (s : State) : (s.setMirror m).lines = s.lines := rfl
@[simp] theorem State.setMirror_trace (m : Mirror) (s : State) : (s.setMirror m).trace = s.trace := rfl
@[simp] theorem State.setMirror_busy (m : Mirror) (s : State) : (s.setMirror m).busy = s.busy := rfl
@[simp] theorem State.setMirror_seq (m : Mirror) (s : State) : (s.setMirror m).seq = s.seq := rfl
@[simp] theorem State.setMirror_latches (m : Mirror) (s : State) : (s.setMirror m).latches = s.latches := rfl
@[simp] theorem State.setMirror_rspValid (m : Mirror) (s : State) : (s.setMirror m).rspValid = s.rspValid := rfl
@[simp] theorem State.setMirror_rspData (m : Mirror) (s : State) : (s.setMirror m).rspData = s.rspData := rfl
@[simp] theorem State.setMirror_host (m : Mirror) (s : State) : (s.setMirror m).host = s.host := rfl
@[simp] theorem State.setMirror_freeCount (m : Mirror) (s : State) : (s.setMirror m).freeCount = s.freeCount := rfl

/-! ### setResetState -/

@[simp] theorem State.setResetState_mirror (r : ResetState) (s : State) : (s.setResetState r).mirror = s.mirror := rfl
@[simp] theorem State.setResetState_resetState (r : ResetState) (s : State) : (s.setResetState r).resetState = r := rfl
@[simp] theorem State.setResetState_lines (r : ResetState) (s : State) : (s.setResetState r).lines = s.lines := rfl
@[simp] theorem State.setResetState_trace (r : ResetState) (s : State) : (s.setResetState r).trace = s.trace := rfl
@[simp] theorem State.setResetState_busy (r : ResetState) (s : State) : (s.setResetState r).busy = s.busy := rfl
@[simp] theorem State.setResetState_seq (r : ResetState) (s : State) : (s.setResetState r).seq = s.seq := rfl
@[simp] theorem State.setResetState_latches (r : ResetState) (s : State) : (s.setResetState r).latches = s.latches := rfl
@[simp] theorem State.setResetState_rspValid (r : ResetState) (s : State) : (s.setResetState r).rspValid = s.rspValid := rfl
@[simp] theorem State.setResetState_rspData (r : ResetState) (s : State) : (s.setResetState r).rspData = s.rspData := rfl
@[simp] theorem State.setResetState_host (r : ResetState) (s : State) : (s.setResetState r).host = s.host := rfl
@[simp] theorem State.setResetState_freeCount (r : ResetState) (s : State) : (s.setResetState r).freeCount = s.freeCount := rfl

/-! ### setTransfer -/

@[simp] theorem State.setTransfer_mirror (sr : Byte) (cnt : BitVec 3) (s : State) : (s.setTransfer sr cnt).mirror = s.mirror := rfl
@[simp] theorem State.setTransfer_resetState (sr : Byte) (cnt : BitVec 3) (s : State) : (s.setTransfer sr cnt).resetState = s.resetState := rfl
@[simp] theorem State.setTransfer_lines (sr : Byte) (cnt : BitVec 3) (s : State) : (s.setTransfer sr cnt).lines = s.lines := rfl
@[simp] theorem State.setTransfer_trace (sr : Byte) (cnt : BitVec 3) (s : State) : (s.setTransfer sr cnt).trace = s.trace := rfl
@[simp] theorem State.setTransfer_busy (sr : Byte) (cnt : BitVec 3) (s : State) : (s.setTransfer sr cnt).busy = s.busy := rfl
@[simp] theorem State.setTransfer_seq (sr : Byte) (cnt : BitVec 3) (s : State) : (s.setTransfer sr cnt).seq = s.seq := rfl
@[simp] theorem State.setTransfer_latches (sr : Byte) (cnt : BitVec 3) (s : State) : (s.setTransfer sr cnt).latches = { s.latches with sr := sr, bitcnt := cnt } := rfl
@[simp] theorem State.setTransfer_rspValid (sr : Byte) (cnt : BitVec 3) (s : State) : (s.setTransfer sr cnt).rspValid = s.rspValid := rfl
@[simp] theorem State.setTransfer_rspData (sr : Byte) (cnt : BitVec 3) (s : State) : (s.setTransfer sr cnt).rspData = s.rspData := rfl
@[simp] theorem State.setTransfer_host (sr : Byte) (cnt : BitVec 3) (s : State) : (s.setTransfer sr cnt).host = s.host := rfl
@[simp] theorem State.setTransfer_freeCount (sr : Byte) (cnt : BitVec 3) (s : State) : (s.setTransfer sr cnt).freeCount = s.freeCount := rfl

/-! ### start -/

@[simp] theorem State.start_mirror (s : State) : (s.start).mirror = s.mirror := rfl
@[simp] theorem State.start_resetState (s : State) : (s.start).resetState = s.resetState := rfl
@[simp] theorem State.start_lines (s : State) : (s.start).lines = s.lines := rfl
@[simp] theorem State.start_trace (s : State) : (s.start).trace = s.trace := rfl
@[simp] theorem State.start_busy (s : State) : (s.start).busy = true := rfl
@[simp] theorem State.start_seq (s : State) : (s.start).seq = s.seq := rfl
@[simp] theorem State.start_latches (s : State) : (s.start).latches = s.latches := rfl
@[simp] theorem State.start_rspValid (s : State) : (s.start).rspValid = false := rfl
@[simp] theorem State.start_rspData (s : State) : (s.start).rspData = s.rspData := rfl
@[simp] theorem State.start_host (s : State) : (s.start).host = s.host := rfl
@[simp] theorem State.start_freeCount (s : State) : (s.start).freeCount = s.freeCount := rfl

/-! ### release -/

@[simp] theorem State.release_mirror (s : State) : (s.release).mirror = s.mirror := rfl
@[simp] theorem State.release_resetState (s : State) : (s.release).resetState = s.resetState := rfl
@[simp] theorem State.release_lines (s : State) : (s.release).lines = s.lines := rfl
@[simp] theorem State.release_trace (s : State) : (s.release).trace = s.trace := rfl
@[simp] theorem State.release_busy (s : State) : (s.release).busy = s.busy := rfl
@[simp] theorem State.release_seq (s : State) : (s.release).seq = s.seq := rfl
@[simp] theorem State.release_latches (s : State) : (s.release).latches = Config.freeLatches s.freeCount := rfl
@[simp] theorem State.release_rspValid (s : State) : (s.release).rspValid = s.rspValid := rfl
@[simp] theorem State.release_rspData (s : State) : (s.release).rspData = s.rspData := rfl
@[simp] theorem State.release_host (s : State) : (s.release).host = s.host := rfl
@[simp] theorem State.release_freeCount (s : State) : (s.release).freeCount = s.freeCount + 1 := rfl

/-! ### complete -/

@[simp] theorem State.complete_mirror (resp : Byte) (s : State) : (s.complete resp).mirror = s.mirror := rfl
@[simp] theorem State.complete_resetState (resp : Byte) (s : State) : (s.complete resp).resetState = s.resetState := rfl
@[simp] theorem State.complete_lines (resp : Byte) (s : State) : (s.complete resp).lines = s.lines := rfl
@[simp] theorem State.complete_trace (resp : Byte) (s : State) : (s.complete resp).trace = s.trace := rfl
@[simp] theorem State.complete_busy (resp : Byte) (s : State) : (s.complete resp).busy = false := rfl
@[simp] theorem State.complete_seq (resp : Byte) (s : State) : (s.complete resp).seq = .idle := rfl
@[simp] theorem State.complete_latches (resp : Byte) (s : State) : (s.complete resp).latches = Config.freeLatches s.freeCount := rfl
@[simp] theorem State.complete_rspValid (resp : Byte) (s : State) : (s.complete resp).rspValid = true := rfl
@[simp] theorem State.complete_rspData (resp : Byte) (s : State) : (s.complete resp).rspData = resp := rfl
@[simp] theorem State.complete_host (resp : Byte) (s : State) : (s.complete resp).host = s.host := rfl
@[simp] theorem State.complete_freeCount (resp : Byte) (s : State) : (s.complete resp).freeCount = s.freeCount + 1 := rfl

/-! ### completeDirect -/

@[simp] theorem State.completeDirect_mirror (s : State) : (s.completeDirect).mirror = s.mirror := rfl
@[simp] theorem State.completeDirect_resetState (s : State) : (s.completeDirect).resetState = s.resetState := rfl
@[simp] theorem State.completeDirect_lines (s : State) : (s.completeDirect).lines = s.lines := rfl
@[simp] theorem State.completeDirect_trace (s : State) : (s.completeDirect).trace = s.trace := rfl
@[simp] theorem State.completeDirect_busy (s : State) : (s.completeDirect).busy = s.busy := rfl
@[simp] theorem State.completeDirect_seq (s : State) : (s.completeDirect).seq = .idle := rfl
@[simp] theorem State.completeDirect_latches (s : State) : (s.completeDirect).latches = Config.freeLatches s.freeCount := rfl
@[simp] theorem State.completeDirect_rspValid (s : State) : (s.completeDirect).rspValid = false := rfl
@[simp] theorem State.completeDirect_rspData (s : State) : (s.completeDirect).rspData = s.rspData := rfl
@[simp] theorem State.completeDirect_host (s : State) : (s.completeDirect).host = s.host := rfl
@[simp] theorem State.completeDirect_freeCount (s : State) : (s.completeDirect).freeCount = s.freeCount + 1 := rfl

/-! ### latchRequest -/

@[simp] theorem State.latchRequest_mirror (w : BitVec 68) (s : State) : (s.latchRequest w).mirror = s.mirror := rfl
@[simp] theorem State.latchRequest_resetState (w : BitVec 68) (s : State) : (s.latchRequest w).resetState = s.resetState := rfl
@[simp] theorem State.latchRequest_lines (w : BitVec 68) (s : State) : (s.latchRequest w).lines = s.lines := rfl
@[simp] theorem State.latchRequest_trace (w : BitVec 68) (s : State) : (s.latchRequest w).trace = s.trace := rfl
@[simp] theorem State.latchRequest_busy (w : BitVec 68) (s : State) : (s.latchRequest w).busy = s.busy := rfl
@[simp] theorem State.latchRequest_seq (w : BitVec 68) (s : State) : (s.latchRequest w).seq = s.seq := rfl
@[simp] theorem State.latchRequest_latches (w : BitVec 68) (s : State) : (s.latchRequest w).latches = { s.latches with opc := reqOp w, argA := reqA w, argG := reqG w } := rfl
@[simp] theorem State.latchRequest_rspValid (w : BitVec 68) (s : State) : (s.latchRequest w).rspValid = s.rspValid := rfl
@[simp] theorem State.latchRequest_rspData (w : BitVec 68) (s : State) : (s.latchRequest w).rspData = s.rspData := rfl
@[simp] theorem State.latchRequest_host (w : BitVec 68) (s : State) : (s.latchRequest w).host = s.host := rfl
@[simp] theorem State.latchRequest_freeCount (w : BitVec 68) (s : State) : (s.latchRequest w).freeCount = s.freeCount := rfl

/-! ### setSeq -/

@[simp] theorem State.setSeq_mirror (p : SeqPos) (s : State) : (s.setSeq p).mirror = s.mirror := rfl
@[simp] theorem State.setSeq_resetState (p : SeqPos) (s : State) : (s.setSeq p).resetState = s.resetState := rfl
@[simp] theorem State.setSeq_lines (p : SeqPos) (s : State) : (s.setSeq p).lines = s.lines := rfl
@[simp] theorem State.setSeq_trace (p : SeqPos) (s : State) : (s.setSeq p).trace = s.trace := rfl
@[simp] theorem State.setSeq_busy (p : SeqPos) (s : State) : (s.setSeq p).busy = s.busy := rfl
@[simp] theorem State.setSeq_seq (p : SeqPos) (s : State) : (s.setSeq p).seq = p := rfl
@[simp] theorem State.setSeq_latches (p : SeqPos) (s : State) : (s.setSeq p).latches = s.latches := rfl
@[simp] theorem State.setSeq_rspValid (p : SeqPos) (s : State) : (s.setSeq p).rspValid = s.rspValid := rfl
@[simp] theorem State.setSeq_rspData (p : SeqPos) (s : State) : (s.setSeq p).rspData = s.rspData := rfl
@[simp] theorem State.setSeq_host (p : SeqPos) (s : State) : (s.setSeq p).host = s.host := rfl
@[simp] theorem State.setSeq_freeCount (p : SeqPos) (s : State) : (s.setSeq p).freeCount = s.freeCount := rfl

/-! ### wait -/

@[simp] theorem State.wait_mirror (s : State) : (s.wait).mirror = s.mirror := rfl
@[simp] theorem State.wait_resetState (s : State) : (s.wait).resetState = s.resetState := rfl
@[simp] theorem State.wait_lines (s : State) : (s.wait).lines = s.lines := rfl
@[simp] theorem State.wait_trace (s : State) : (s.wait).trace = s.trace := rfl
@[simp] theorem State.wait_busy (s : State) : (s.wait).busy = s.busy := rfl
@[simp] theorem State.wait_seq (s : State) : (s.wait).seq = s.seq := rfl
@[simp] theorem State.wait_latches (s : State) : (s.wait).latches = s.latches := rfl
@[simp] theorem State.wait_rspValid (s : State) : (s.wait).rspValid = false := rfl
@[simp] theorem State.wait_rspData (s : State) : (s.wait).rspData = s.rspData := rfl
@[simp] theorem State.wait_host (s : State) : (s.wait).host = s.host := rfl
@[simp] theorem State.wait_freeCount (s : State) : (s.wait).freeCount = s.freeCount := rfl

/-! ### present -/

@[simp] theorem State.present_mirror (c : Code) (s : State) : (s.present c).mirror = s.mirror := rfl
@[simp] theorem State.present_resetState (c : Code) (s : State) : (s.present c).resetState = s.resetState := rfl
@[simp] theorem State.present_lines (c : Code) (s : State) : (s.present c).lines = s.lines := rfl
@[simp] theorem State.present_trace (c : Code) (s : State) : (s.present c).trace = s.trace := rfl
@[simp] theorem State.present_busy (c : Code) (s : State) : (s.present c).busy = false := rfl
@[simp] theorem State.present_seq (c : Code) (s : State) : (s.present c).seq = .idle := rfl
@[simp] theorem State.present_latches (c : Code) (s : State) : (s.present c).latches = s.latches := rfl
@[simp] theorem State.present_rspValid (c : Code) (s : State) : (s.present c).rspValid = s.rspValid := rfl
@[simp] theorem State.present_rspData (c : Code) (s : State) : (s.present c).rspData = s.rspData := rfl
@[simp] theorem State.present_host (c : Code) (s : State) : (s.present c).host = .call c :: s.host := rfl
@[simp] theorem State.present_freeCount (c : Code) (s : State) : (s.present c).freeCount = s.freeCount := rfl

/-! ### powerOn -/

@[simp] theorem State.powerOn_mirror (s : State) (rest : List HostAction) : (s.powerOn rest).mirror = Config.powerOnMirror := rfl
@[simp] theorem State.powerOn_resetState (s : State) (rest : List HostAction) : (s.powerOn rest).resetState = .unreset := rfl
@[simp] theorem State.powerOn_lines (s : State) (rest : List HostAction) : (s.powerOn rest).lines = Config.initLines := rfl
@[simp] theorem State.powerOn_trace (s : State) (rest : List HostAction) : (s.powerOn rest).trace = [] := rfl
@[simp] theorem State.powerOn_busy (s : State) (rest : List HostAction) : (s.powerOn rest).busy = false := rfl
@[simp] theorem State.powerOn_seq (s : State) (rest : List HostAction) : (s.powerOn rest).seq = .idle := rfl
@[simp] theorem State.powerOn_latches (s : State) (rest : List HostAction) : (s.powerOn rest).latches = Config.freeLatches s.freeCount := rfl
@[simp] theorem State.powerOn_rspValid (s : State) (rest : List HostAction) : (s.powerOn rest).rspValid = false := rfl
@[simp] theorem State.powerOn_rspData (s : State) (rest : List HostAction) : (s.powerOn rest).rspData = 0 := rfl
@[simp] theorem State.powerOn_host (s : State) (rest : List HostAction) : (s.powerOn rest).host = rest := rfl
@[simp] theorem State.powerOn_freeCount (s : State) (rest : List HostAction) : (s.powerOn rest).freeCount = s.freeCount + 1 := rfl

/-! ### reset -/

@[simp] theorem State.reset_mirror : State.reset.mirror = Config.powerOnMirror := rfl
@[simp] theorem State.reset_resetState : State.reset.resetState = .unreset := rfl
@[simp] theorem State.reset_lines : State.reset.lines = Config.initLines := rfl
@[simp] theorem State.reset_trace : State.reset.trace = [] := rfl
@[simp] theorem State.reset_busy : State.reset.busy = false := rfl
@[simp] theorem State.reset_seq : State.reset.seq = .idle := rfl
@[simp] theorem State.reset_latches : State.reset.latches = Config.freeLatches 0 := rfl
@[simp] theorem State.reset_rspValid : State.reset.rspValid = false := rfl
@[simp] theorem State.reset_rspData : State.reset.rspData = 0 := rfl
@[simp] theorem State.reset_host : State.reset.host = [] := rfl
@[simp] theorem State.reset_freeCount : State.reset.freeCount = 1 := rfl

end Sys2Proof.Machine
end

