-- ==== Sys2Proof/Laws/Ops.lean ====
section
/-! SUPPORT. What each shared operation can do, said once: the guards, the two ways an operation completes, the frame of one
byte, and bytes sent one after the other. -/

namespace Sys2Proof.Machine

/-! ## Guards and completion -/

theorem unlessBusy_idle {s : State} (h : s.busy = false) (k : Result) : unlessBusy s k = k := by
  simp [unlessBusy, h]

theorem unlessBusy_busy {s : State} (h : s.busy = true) (k : Result) :
    unlessBusy s k = .refused .concurrentInvocation := by
  simp [unlessBusy, h]

/-- A guarded operation answers a next state only from an idle block. -/
theorem unlessBusy_next {s t : State} {k : Result} (h : unlessBusy s k = .next t) : s.busy = false ∧ k = .next t := by
  unfold unlessBusy at h
  split at h
  · cases h
  · exact ⟨by simpa using ‹¬s.busy = true›, h⟩

theorem requireReady_ready {s : State} (h : s.resetState = .ready) (op : MirrorOp) (k : Result) :
    requireReady op s k = k := by
  simp [requireReady, h]

theorem requireReady_unreset {s : State} (h : s.resetState = .unreset) (op : MirrorOp) (k : Result) :
    requireReady op s k = .fault (.preconditionViolated op) := by
  simp [requireReady, h]

/-- A mirror-reading operation answers a next state only once READY. -/
theorem requireReady_next {s t : State} {op : MirrorOp} {k : Result} (h : requireReady op s k = .next t) :
    s.resetState = .ready ∧ k = .next t := by
  unfold requireReady at h
  split at h
  · cases h
  · exact ⟨‹_›, h⟩

theorem requested_next {resp : Byte} {body : State → State} {s t : State} (h : requested resp body s = .next t) :
    t = (body s.start).complete resp := by
  cases h; rfl

theorem direct_next {body : State → State} {s t : State} (h : direct body s = .next t) : t = (body s).completeDirect := by
  cases h; rfl

/-! ## Events and levels -/

@[simp] theorem levelsAfter_nil (ls : Lines) : levelsAfter ls [] = ls := rfl

@[simp] theorem levelsAfter_cons (ls : Lines) (e : Event) (es : List Event) :
    levelsAfter ls (e :: es) = levelsAfter (applyEvent ls e) es := rfl

theorem levelsAfter_append (ls : Lines) (es fs : List Event) :
    levelsAfter ls (es ++ fs) = levelsAfter (levelsAfter ls es) fs := by
  simp [levelsAfter]

theorem emit_emit (es fs : List Event) (s : State) : (s.emit es).emit fs = s.emit (es ++ fs) := by
  simp [State.emit, levelsAfter_append]

theorem Rx.run_append (r : Rx) (es fs : List Event) : r.run (es ++ fs) = (r.run es).run fs := by
  simp [Rx.run]

theorem minTime_append (len : TimeParam → Nat) (es fs : List Event) :
    minTime len (es ++ fs) = minTime len es + minTime len fs := by
  induction es with
  | nil => simp [minTime]
  | cons e es ih => cases e <;> simp [minTime, ih, Nat.add_assoc]

theorem clockPulses_append (es fs : List Event) : clockPulses (es ++ fs) = clockPulses es + clockPulses fs := by
  simp [clockPulses]

/-- A frame leaves the idle levels of R26, whatever the levels were before. -/
theorem levelsAfter_frame (ls : Lines) (b : Byte) : levelsAfter ls (frameEvents b) = linesAfterByte ls b := rfl

/-! ## Sending bytes -/

@[simp] theorem sendByte_mirror (b : Byte) (s : State) : (sendByte b s).mirror = s.mirror := rfl
@[simp] theorem sendByte_resetState (b : Byte) (s : State) : (sendByte b s).resetState = s.resetState := rfl
@[simp] theorem sendByte_lines (b : Byte) (s : State) : (sendByte b s).lines = linesAfterByte s.lines b := rfl
@[simp] theorem sendByte_trace (b : Byte) (s : State) : (sendByte b s).trace = s.trace ++ frameEvents b := rfl
@[simp] theorem sendByte_busy (b : Byte) (s : State) : (sendByte b s).busy = s.busy := rfl
@[simp] theorem sendByte_seq (b : Byte) (s : State) : (sendByte b s).seq = s.seq := rfl
@[simp] theorem sendByte_rspValid (b : Byte) (s : State) : (sendByte b s).rspValid = s.rspValid := rfl
@[simp] theorem sendByte_rspData (b : Byte) (s : State) : (sendByte b s).rspData = s.rspData := rfl
@[simp] theorem sendByte_host (b : Byte) (s : State) : (sendByte b s).host = s.host := rfl
@[simp] theorem sendByte_freeCount (b : Byte) (s : State) : (sendByte b s).freeCount = s.freeCount := rfl

/-- All that sending bytes does: their frames go out, the transfer registers move, nothing else changes. -/
theorem sendBytes_spec (bs : List Byte) (s : State) :
    (sendBytes bs s).trace = s.trace ++ bs.flatMap frameEvents ∧
    (sendBytes bs s).lines = levelsAfter s.lines (bs.flatMap frameEvents) ∧
    (sendBytes bs s).mirror = s.mirror ∧ (sendBytes bs s).resetState = s.resetState ∧
    (sendBytes bs s).busy = s.busy ∧ (sendBytes bs s).seq = s.seq ∧
    (sendBytes bs s).rspValid = s.rspValid ∧ (sendBytes bs s).rspData = s.rspData ∧
    (sendBytes bs s).host = s.host ∧ (sendBytes bs s).freeCount = s.freeCount := by
  induction bs generalizing s with
  | nil => simp [sendBytes]
  | cons b bs ih =>
    obtain ⟨h1, h2, h3, h4, h5, h6, h7, h8, h9, h10⟩ := ih (sendByte b s)
    simp [sendBytes, h1, h2, h3, h4, h5, h6, h7, h8, h9, h10, levelsAfter_append, levelsAfter_frame]

/-! ## One step -/

/-- All a step can do, by what the outside world does next. -/
theorem step_cases (s : State) :
    (s.host = [] ∧ step s = goOn s) ∨
    (∃ c rest, s.host = .call c :: rest ∧ step s = runCode c rest s) ∨
    (∃ rest, s.host = .assertRstN :: rest ∧
      step s = if s.busy then .refused .abortMidOperation else .next (s.powerOn rest)) ∨
    (∃ l v rest, s.host = .foreignSet l v :: rest ∧ step s = .refused .foreignLineDriver) := by
  unfold step
  cases h : s.host with
  | nil => exact .inl ⟨rfl, rfl⟩
  | cons a rest =>
    cases a with
    | call c => exact .inr (.inl ⟨c, rest, rfl, rfl⟩)
    | assertRstN => exact .inr (.inr (.inl ⟨rest, rfl, rfl⟩))
    | foreignSet l v => exact .inr (.inr (.inr ⟨l, v, rest, rfl, rfl⟩))

/-- A step of an idle block that is presented a code runs its operation, with the operands latched if it is a request. -/
theorem step_call_idle {s : State} {c : Code} {rest : List HostAction} (hb : s.busy = false)
    (hh : s.host = .call c :: rest) :
    step s = match c with
      | .req w => exec (decode (.req w)) (({ s with host := rest } : State).latchRequest w)
      | .wire b => exec (decode (.wire b)) { s with host := rest } := by
  cases c <;> simp [step, hh, react, runCode, State.reqReady, hb]

end Sys2Proof.Machine
end

