-- ==== Sys2Proof/Laws/Exec.lean ====
section
/-! SUPPORT. What an operation can do, said once: the state it reaches where it reaches one, and that it reaches one only from
an idle block. Later proofs cite this and never unfold a meaning. -/

namespace Sys2Proof.Machine

/-- The one state an operation can reach from `s`. -/
def reached (s : State) : Instr → State
  | .writeByte b => (sendByte b s).completeDirect
  | .ctrlWrite => (sendCtrl s).completeDirect
  | .digitSelect d => (sendByte (encDsel d) s).completeDirect
  | .rowData v => (sendByte (encRow v) s).completeDirect
  | .reset => (resetBody s.start).complete 0
  | .clear => (updateCtrl (mirrorSetClear false) (updateCtrl (mirrorSetClear true) s.start)).complete 0
  | .setBrightness b => (updateCtrl (mirrorSetBrightness b) s.start).complete 0
  | .getBrightness => s.start.complete (apiBrightness s.mirror.br)
  | .setPeakCurrent p => (updateCtrl (mirrorSetPeak p) s.start).complete 0
  | .getPeakCurrent => s.start.complete (peakResponse s.mirror.pcl)
  | .writeGlyph d g => (glyphBody d g s.start).complete 0
  | .reservedReq7 => s.start.complete 0
  | .reservedReq8F _ => s.start.complete 0

theorem guarded {op : MirrorOp} {s : State} (h : s.busy = false) (hr : s.resetState = .ready) (k : Result) :
    unlessBusy s (requireReady op s k) = k := by
  rw [unlessBusy_idle h, requireReady_ready hr]

theorem guarded_next {op : MirrorOp} {s t : State} {k : Result} (h : unlessBusy s (requireReady op s k) = .next t) :
    s.busy = false ∧ s.resetState = .ready ∧ k = .next t := by
  obtain ⟨hb, hk⟩ := unlessBusy_next h
  exact ⟨hb, requireReady_next hk⟩

/-- An operation that answers a next state was started by an idle block, READY if it reads the mirror, and answers the one
state it can reach. -/
theorem exec_next {i : Instr} {s t : State} (h : exec i s = .next t) :
    s.busy = false ∧ (∀ op, readsMirror i = some op → s.resetState = .ready) ∧ t = reached s i := by
  cases i
  case digitSelect d =>
    obtain ⟨hb, hk⟩ := unlessBusy_next h
    split at hk
    · exact ⟨hb, nofun, direct_next hk⟩
    · cases hk
  case writeByte b => exact ⟨(unlessBusy_next h).1, nofun, direct_next (unlessBusy_next h).2⟩
  case rowData v => exact ⟨(unlessBusy_next h).1, nofun, direct_next (unlessBusy_next h).2⟩
  case reset => exact ⟨(unlessBusy_next h).1, nofun, requested_next (unlessBusy_next h).2⟩
  case writeGlyph d g => exact ⟨(unlessBusy_next h).1, nofun, requested_next (unlessBusy_next h).2⟩
  case reservedReq7 => exact ⟨(unlessBusy_next h).1, nofun, requested_next (unlessBusy_next h).2⟩
  case reservedReq8F lo => exact ⟨(unlessBusy_next h).1, nofun, requested_next (unlessBusy_next h).2⟩
  case ctrlWrite => exact ⟨(guarded_next h).1, fun _ _ => (guarded_next h).2.1, direct_next (guarded_next h).2.2⟩
  case clear => exact ⟨(guarded_next h).1, fun _ _ => (guarded_next h).2.1, requested_next (guarded_next h).2.2⟩
  case setBrightness b => exact ⟨(guarded_next h).1, fun _ _ => (guarded_next h).2.1, requested_next (guarded_next h).2.2⟩
  case getBrightness => exact ⟨(guarded_next h).1, fun _ _ => (guarded_next h).2.1, requested_next (guarded_next h).2.2⟩
  case setPeakCurrent p => exact ⟨(guarded_next h).1, fun _ _ => (guarded_next h).2.1, requested_next (guarded_next h).2.2⟩
  case getPeakCurrent => exact ⟨(guarded_next h).1, fun _ _ => (guarded_next h).2.1, requested_next (guarded_next h).2.2⟩

/-- An operation that reads the mirror reaches its state from an idle, READY block. -/
theorem exec_ready {i : Instr} {op : MirrorOp} {s : State} (hi : readsMirror i = some op) (h : s.busy = false)
    (hr : s.resetState = .ready) : exec i s = .next (reached s i) := by
  cases i <;> first | exact guarded h hr _ | cases hi

/-- A digit select reaches its state from an idle block where the digit exists. -/
theorem exec_digitSelect {d : Byte} {s : State} (h : s.busy = false) (hd : digitInRange d = true) :
    exec (.digitSelect d) s = .next (reached s (.digitSelect d)) :=
  (unlessBusy_idle h _).trans (if_pos hd)

/-- An idle block is idle again after an operation, and the outside world's actions are as before. -/
theorem reached_idle (s : State) (h : s.busy = false) (i : Instr) :
    (reached s i).busy = false ∧ (reached s i).seq = .idle ∧ (reached s i).host = s.host := by
  cases i <;> simp [reached, h, resetBody, updateCtrl, sendCtrl, glyphBody]
  case writeGlyph d g => split <;> simp [sendBytes_spec]

end Sys2Proof.Machine
end

