-- ==== Sys2Proof/Laws/PerInstr.lean ====
section
/-! SUPPORT. Per-instruction laws. The encoder agrees with the match and mask of every row of spec/opcode_table.json. -/

namespace Sys2Proof.Laws

/-- The `match` and `mask` of an instruction's row in spec/opcode_table.json, over its format (R72). -/
def tableRow : Instr → Code × Code
  | .writeByte _ => (.wire 0x00, .wire 0x00)
  | .ctrlWrite => (.wire 0xC0, .wire 0xD0)
  | .digitSelect _ => (.wire 0xA0, .wire 0xF8)
  | .rowData _ => (.wire 0x00, .wire 0xE0)
  | .reset => (.req 0x00000000000000000, .req 0xF0000000000000000)
  | .clear => (.req 0x10000000000000000, .req 0xF0000000000000000)
  | .setBrightness _ => (.req 0x20000000000000000, .req 0xF0000000000000000)
  | .getBrightness => (.req 0x30000000000000000, .req 0xF0000000000000000)
  | .setPeakCurrent _ => (.req 0x40000000000000000, .req 0xF0000000000000000)
  | .getPeakCurrent => (.req 0x50000000000000000, .req 0xF0000000000000000)
  | .writeGlyph _ _ => (.req 0x60000000000000000, .req 0xF0000000000000000)
  | .reservedReq7 => (.req 0x70000000000000000, .req 0xF0000000000000000)
  | .reservedReq8F _ => (.req 0x80000000000000000, .req 0x80000000000000000)

/-- A code has the bits of `row.1` wherever `row.2` has a one. -/
def matchesRow : Code → Code × Code → Prop
  | .wire b, (.wire m, .wire k) => b &&& k = m
  | .req w, (.req m, .req k) => w &&& k = m
  | _, _ => False

/-- A bit of a request word: the glyph field, then the scalar operand, then the operation code (R65). -/
theorem getLsbD_requestWord (op : BitVec 4) (a : Byte) (g : BitVec 56) (i : Nat) :
    (requestWord op a g).getLsbD i =
      if i < 56 then g.getLsbD i else if i < 64 then a.getLsbD (i - 56) else op.getLsbD (i - 64) := by
  have hag : ∀ j, (a ++ g).getLsbD j = if j < 56 then g.getLsbD j else a.getLsbD (j - 56) :=
    fun j => BitVec.getLsbD_append
  have hop : (requestWord op a g).getLsbD i = if i < 64 then (a ++ g).getLsbD i else op.getLsbD (i - 64) :=
    BitVec.getLsbD_append
  rw [hop, hag]
  split_ifs <;> first | rfl | omega

/-- The mask of a `REQ68` row keeps the operation code alone. -/
theorem requestWord_and_opMask (op : BitVec 4) (a : Byte) (g : BitVec 56) :
    requestWord op a g &&& 0xF0000000000000000#68 = requestWord op 0 0 := by
  rw [show (0xF0000000000000000#68) = requestWord (BitVec.allOnes 4) 0#8 0#56 by decide]
  apply BitVec.eq_of_getLsbD_eq
  intro i hi
  have : i - 64 < 4 := by omega
  simp only [BitVec.getLsbD_and, getLsbD_requestWord]
  split_ifs
  · simp
  · simp
  · rw [BitVec.getLsbD_allOnes]
    simp [this]

namespace EncodeMatchesTable

def Statement (i : Instr) : Prop := matchesRow (encode i) (tableRow i)

theorem writeByte (b : Byte) : Statement (.writeByte b) := by simp [Statement, matchesRow, encode, tableRow]
theorem ctrlWrite : Statement .ctrlWrite := by
  show encCtrl ⟨false, false, 0⟩ &&& 0xD0#8 = 0xC0#8
  decide
theorem digitSelect (d : Byte) : Statement (.digitSelect d) := by
  show encDsel d &&& 0xF8#8 = 0xA0#8
  revert d; decide
theorem rowData (v : Byte) : Statement (.rowData v) := by
  show encRow v &&& 0xE0#8 = 0x00#8
  revert v; decide
theorem reset : Statement .reset := requestWord_and_opMask _ _ _
theorem clear : Statement .clear := requestWord_and_opMask _ _ _
theorem setBrightness (b : Byte) : Statement (.setBrightness b) := requestWord_and_opMask _ _ _
theorem getBrightness : Statement .getBrightness := requestWord_and_opMask _ _ _
theorem setPeakCurrent (p : Byte) : Statement (.setPeakCurrent p) := requestWord_and_opMask _ _ _
theorem getPeakCurrent : Statement .getPeakCurrent := requestWord_and_opMask _ _ _
theorem writeGlyph (d : Byte) (g : Glyph) : Statement (.writeGlyph d g) := requestWord_and_opMask _ _ _
theorem reservedReq7 : Statement .reservedReq7 := requestWord_and_opMask _ _ _
theorem reservedReq8F (lo : BitVec 3) : Statement (.reservedReq8F lo) := by
  show requestWord (1#1 ++ lo) 0 0 &&& 0x80000000000000000#68 = 0x80000000000000000#68
  revert lo; decide

end EncodeMatchesTable

end Sys2Proof.Laws
end

