-- ==== Sys2Proof/Laws/Sequencer.lean ====
section
/-! SUPPORT. What a step of a busy block can do, said once: `advance` is the next phase or the fault of R150, and no phase
touches the outside world's actions. -/

namespace Sys2Proof.Machine

/-- The operation in progress goes on unless it reads the mirror of a block still UNRESET. -/
theorem advance_runs {s : State} (h : latchedMirrorOp s = none ∨ s.resetState = .ready) : advance s = .next (tick s) := by
  unfold advance
  split
  · next op ho =>
    rcases h with h | h
    · rw [ho] at h; cases h
    · exact requireReady_ready h op _
  · rfl

theorem advance_faults {s : State} {op : MirrorOp} (ho : latchedMirrorOp s = some op) (hr : s.resetState = .unreset) :
    advance s = .fault (.preconditionViolated op) := by
  simp [advance, ho, requireReady_unreset hr]

/-- The only state a busy block can go on to is the one after the next phase. -/
theorem advance_next {s t : State} (h : advance s = .next t) : t = tick s := by
  unfold advance at h
  split at h
  · cases (requireReady_next h).2; rfl
  · cases h; rfl

@[simp] theorem tick_host (s : State) : (tick s).host = s.host := by
  unfold tick
  cases s.seq with
  | idle => rfl
  | rstLow => rfl
  | rstHigh => rfl
  | frame k i p => cases p <;> simp <;> split <;> simp

end Sys2Proof.Machine
end

