-- ==== Sys2Proof/Tests/Slice0.lean ====
section
/-! SUPPORT. Small tests of the model. Expected values come from spec/95_test_vectors.md (the section is named at each group)
or are worked out by hand from the rule named; then one witness for the hypotheses of every statement that has some. -/

namespace Sys2Proof.Tests

open Sys2Proof.Machine

/-! ## Small states -/

/-- Idle, READY, with a given mirror; LOAD and RESET high, CLOCK and DATA low; nothing sent yet. -/
def idleReady (m : Mirror) : State :=
  { State.reset with mirror := m, resetState := .ready, lines := ⟨false, false, true, true⟩ }

/-- An operation in progress: `CLEAR` accepted by an idle, READY block. -/
def midClear : State := (idleReady ⟨false, false, 0⟩).accept 0x10000000000000000#68

/-- The next state of an outcome, if it is one. -/
def nextOf : Result → Option State
  | .next t => some t
  | .fault _ => none
  | .refused _ => none

/-- Bytes on the wire, mirror, response: what the tables of 95_test_vectors.md show. -/
def seen (r : Result) : Option (List Byte × Mirror × Byte) :=
  (nextOf r).map fun t => (traceBytes t.trace, t.mirror, t.rspData)

/-- A glyph made up by 95_test_vectors.md 2.2. -/
def glyphA : Glyph := ⟨0x0E, 0x11, 0x11, 0x1F, 0x11, 0x11, 0x11⟩

/-- A glyph with high bits set, 95_test_vectors.md 2.2. -/
def glyphHigh : Glyph := ⟨0xFF, 0xE0, 0xA3, 0x20, 0x1F, 0x00, 0x95⟩

/-! ## Well-formedness (R91) -/

theorem test_wellFormed_digit_seven : (Instr.digitSelect 7).wellFormed = true := by decide
theorem test_wellFormed_refuses_digit_eight : (Instr.digitSelect 8).wellFormed = false := by decide

/-! ## Decoding: words written out from R54, R58, R60, R66 and 95_test_vectors.md 2.4, 2.5 -/

theorem test_decode_ctrlWrite : decodeTableWord 8 0b11101100 = some .ctrlWrite := by decide
theorem test_decode_digitSelect : decodeTableWord 8 0b10100101 = some (.digitSelect 5) := by decide
theorem test_decode_rowData : decodeTableWord 8 0b00010101 = some (.rowData 0b10101) := by decide
theorem test_decode_writeByte : decodeTableWord 8 0b11110000 = some (.writeByte 0xF0) := by decide
theorem test_decode_writeByte_a8 : decodeTableWord 8 0b10101000 = some (.writeByte 0xA8) := by decide
theorem test_decode_reset : decodeTableWord 72 0x0FFFFFFFFFFFFFFFF = some .reset := by decide
theorem test_decode_clear : decodeTableWord 72 0x10000000000000000 = some .clear := by decide
theorem test_decode_setBrightness : decodeTableWord 72 0x20500000000000000 = some (.setBrightness 5) := by decide
theorem test_decode_getBrightness : decodeTableWord 72 0x30000000000000000 = some .getBrightness := by decide
theorem test_decode_setPeakCurrent : decodeTableWord 72 0x40100000000000000 = some (.setPeakCurrent 1) := by decide
theorem test_decode_getPeakCurrent : decodeTableWord 72 0x50000000000000000 = some .getPeakCurrent := by decide
theorem test_decode_writeGlyph : decodeTableWord 72 0x6021111111F11110E = some (.writeGlyph 2 glyphA) := by decide
theorem test_decode_writeGlyph_high : decodeTableWord 72 0x60795001F20A3E0FF = some (.writeGlyph 7 glyphHigh) := by decide
theorem test_decode_reservedReq7 : decodeTableWord 72 0x70000000000000000 = some .reservedReq7 := by decide
theorem test_decode_reservedReq8F_low : decodeTableWord 72 0x80000000000000000 = some (.reservedReq8F 0) := by decide
theorem test_decode_reservedReq8F_high : decodeTableWord 72 0xFFFFFFFFFFFFFFFFF = some (.reservedReq8F 7) := by decide
theorem test_decode_refuses_wide_word : codeOfWord 72 0x100000000000000000 = .error .bitAboveWidth := by rfl
theorem test_decode_refuses_width : codeOfWord 16 0 = .error (.noSuchWidth 16) := by rfl

/-! ## Encoding: the same words (95_test_vectors.md 2.2, 2.4) -/

theorem test_encode_digitSelect : encode (.digitSelect 5) = .wire 0xA5 := by decide
theorem test_encode_rowData : encode (.rowData 0x15) = .wire 0x15 := by decide
theorem test_encode_setPeakCurrent : encode (.setPeakCurrent 1) = .req 0x40100000000000000 := by decide
theorem test_encode_writeGlyph : encode (.writeGlyph 7 glyphHigh) = .req 0x60795001F20A3E0FF := by decide

theorem test_encCtrl_low_current : encCtrl ⟨false, true, 4⟩ = 0xEC := by decide
theorem test_encCtrl_clear_low_current : encCtrl ⟨true, true, 7⟩ = 0xCF := by decide
theorem test_decodeByte_ctrl : decodeByte 0xCC = .ctrl ⟨true, true, 4⟩ := by decide
theorem test_decodeByte_notEmitted : decodeByte 0xD3 = .notEmitted := by decide

/-! ## Operations (95_test_vectors.md 2.1 to 2.3) -/

/-- 2.1: 0xA3 is driven as 1 1 0 0 0 1 0 1. -/
theorem test_writeByte_bit_order :
    wireBits 0xA3 = [true, true, false, false, false, true, false, true] := by decide

theorem test_writeByte :
    seen (exec (.writeByte 0xFF) (idleReady ⟨false, true, 2⟩)) = some ([0xFF], ⟨false, true, 2⟩, 0) := by decide
theorem test_ctrlWrite :
    seen (exec .ctrlWrite (idleReady ⟨false, true, 4⟩)) = some ([0xEC], ⟨false, true, 4⟩, 0) := by decide
theorem test_digitSelect :
    seen (exec (.digitSelect 3) (idleReady ⟨false, false, 0⟩)) = some ([0xA3], ⟨false, false, 0⟩, 0) := by decide
theorem test_rowData_masks :
    seen (exec (.rowData 0xA3) (idleReady ⟨false, false, 0⟩)) = some ([0x03], ⟨false, false, 0⟩, 0) := by decide
theorem test_writeGlyph :
    seen (exec (.writeGlyph 2 glyphA) (idleReady ⟨false, true, 2⟩)) = some ([0xA2, 0x0E, 0x11, 0x11, 0x1F, 0x11, 0x11, 0x11], ⟨false, true, 2⟩, 0) := by decide
theorem test_writeGlyph_masks :
    seen (exec (.writeGlyph 7 glyphHigh) (idleReady ⟨false, false, 0⟩)) = some ([0xA7, 0x1F, 0x00, 0x03, 0x00, 0x1F, 0x00, 0x15], ⟨false, false, 0⟩, 0) := by decide
theorem test_reset :
    seen (exec .reset (idleReady ⟨false, true, 5⟩)) = some ([], ⟨false, false, 0⟩, 0) := by decide
theorem test_clear :
    seen (exec .clear (idleReady ⟨false, true, 4⟩)) = some ([0xCC, 0xEC], ⟨false, true, 4⟩, 0) := by decide
theorem test_setBrightness :
    seen (exec (.setBrightness 5) (idleReady ⟨false, true, 0⟩)) = some ([0xEA], ⟨false, true, 2⟩, 0) := by decide
theorem test_setBrightness_masks :
    seen (exec (.setBrightness 10) (idleReady ⟨false, false, 0⟩)) = some ([0xE5], ⟨false, false, 5⟩, 0) := by decide
theorem test_getBrightness :
    seen (exec .getBrightness (idleReady ⟨false, false, 2⟩)) = some ([], ⟨false, false, 2⟩, 5) := by decide
theorem test_setPeakCurrent :
    seen (exec (.setPeakCurrent 0xFF) (idleReady ⟨false, false, 5⟩)) = some ([0xED], ⟨false, true, 5⟩, 0) := by decide
theorem test_setPeakCurrent_masks :
    seen (exec (.setPeakCurrent 0xFE) (idleReady ⟨false, true, 5⟩)) = some ([0xE5], ⟨false, false, 5⟩, 0) := by decide
theorem test_getPeakCurrent :
    seen (exec .getPeakCurrent (idleReady ⟨false, true, 0⟩)) = some ([], ⟨false, true, 0⟩, 1) := by decide
theorem test_reservedReq7 :
    seen (exec .reservedReq7 (idleReady ⟨false, true, 3⟩)) = some ([], ⟨false, true, 3⟩, 0) := by decide
theorem test_reservedReq8F :
    seen (exec (.reservedReq8F 7) (idleReady ⟨false, true, 3⟩)) = some ([], ⟨false, true, 3⟩, 0) := by decide

/-- 2.3: the four events of the reset pulse, from power-on. -/
theorem test_reset_events :
    (nextOf (exec .reset State.reset)).map (fun t => (t.trace, t.resetState)) =
      some ([.set .reset false, .wait .reset, .set .reset true, .wait .reset], .ready) := by decide

/-- 2.2: digit 8 is dropped, it does not select digit 0; the response is that of an accepted write. -/
theorem test_writeGlyph_drops_eight :
    seen (exec (.writeGlyph 8 glyphHigh) (idleReady ⟨false, false, 0⟩)) = some ([], ⟨false, false, 0⟩, 0) := by decide

/-- 2.2: a glyph write in UNRESET is no fault. -/
theorem test_writeGlyph_unreset :
    (nextOf (exec (.writeGlyph 3 ⟨1, 2, 3, 4, 5, 6, 7⟩) State.reset)).map (fun t => traceBytes t.trace) =
      some [0xA3, 1, 2, 3, 4, 5, 6, 7] := by decide

/-- 2.3 and P5: a mirror-reading operation in UNRESET faults with its name. -/
theorem test_setBrightness_unreset :
    exec (.setBrightness 3) State.reset = .fault (.preconditionViolated .setBrightness) := rfl

/-- R91: a directly called digit select of 8 is refused. -/
theorem test_digitSelect_refuses_eight :
    exec (.digitSelect 8) State.reset = .refused (.digitSelectOutOfRange 8) := rfl

/-- 2.1: the end levels of the frame of 0xA3. -/
theorem test_writeByte_levels :
    (nextOf (exec (.writeByte 0xA3) (idleReady ⟨false, false, 0⟩))).map (fun t => t.lines) =
      some ⟨true, false, true, true⟩ := by decide

/-! ## Steps -/

/-- A presented request is run by the very next step, and is taken off the port. -/
theorem test_step_request :
    (nextOf (step (State.reset.withFetchWord 72 0x6021111111F11110E))).map (fun t => (traceBytes t.trace, t.host, t.busy)) =
      some ([0xA2, 0x0E, 0x11, 0x11, 0x1F, 0x11, 0x11, 0x11], [], false) := by decide

/-- A direct call of an internal operation is run by the very next step. -/
theorem test_step_direct :
    (nextOf (step (State.reset.withFetchWord 8 0x1F))).map (fun t => traceBytes t.trace) = some [0x1F] := by decide

/-- R163: `rst_n` in the middle of an operation is refused. -/
theorem test_step_abort : step { midClear with host := [.assertRstN] } = .refused .abortMidOperation := rfl

/-- R16: one phase of the operation in progress, the first of a frame, drives LOAD low. -/
theorem test_advance : (nextOf (advance midClear)).map (fun t => (t.seq, t.trace, t.mirror)) =
    some (.frame 0 0 .data, [.set .load false], ⟨true, false, 0⟩) := by decide

/-- S9: printing "ABCDE" at 6 writes two characters and returns 8. -/
theorem test_print_stops :
    printInto [0x20, 0x20, 0x20, 0x20, 0x20, 0x20, 0x20, 0x20] 6 [0x41, 0x42, 0x43, 0x44, 0x45] =
      ([0x20, 0x20, 0x20, 0x20, 0x20, 0x20, 0x41, 0x42], 8) := by decide

/-! ## Witnesses: for every statement with hypotheses, states and operands that meet all of them -/

/-- The idle, READY state of the witnesses. -/
def s0 : State := idleReady ⟨false, true, 4⟩

theorem witness_FrameShape : s0.busy = false := rfl
theorem witness_WriteByteSendsOneFrame : s0.busy = false := rfl
theorem witness_RowDataSendsLowFiveBits : s0.busy = false := rfl
theorem witness_ResetPulsesAndSetsDefaults : s0.busy = false := rfl
theorem witness_ResetPulsesAndSetsDefaults_code : reqOp 0x0FFFFFFFFFFFFFFFF = 0x0#4 := by decide
theorem witness_ReservedRequestsAreNoOperations : s0.busy = false := rfl
theorem witness_ResetForgetsSettings : s0.busy = false := rfl
theorem witness_CompletesExactlyWhen : s0.busy = false := rfl
theorem witness_ResetStateTransitions : s0.busy = false := rfl
theorem witness_CtrlWriteSendsMirror : s0.busy = false ∧ s0.resetState = .ready := ⟨rfl, rfl⟩
/-- Meets the hypotheses of every clause that says an operation faults before the first `RESET`. -/
theorem witness_faults_before_reset : State.reset.busy = false ∧ State.reset.resetState = .unreset := ⟨rfl, rfl⟩
theorem witness_ClearPulsesBitFive : s0.busy = false ∧ s0.resetState = .ready := ⟨rfl, rfl⟩
theorem witness_ClearPulsesBitFive_code : reqOp 0x1FFFFFFFFFFFFFFFF = 0x1#4 := by decide
theorem witness_SetBrightnessWritesFieldAndChip : s0.busy = false ∧ s0.resetState = .ready := ⟨rfl, rfl⟩
theorem witness_SetBrightnessWritesFieldAndChip_code : reqOp 0x2FFFFFFFFFFFFFFFF = 0x2#4 := by decide
theorem witness_GetBrightnessReadsMirror : s0.busy = false ∧ s0.resetState = .ready := ⟨rfl, rfl⟩
theorem witness_GetBrightnessReadsMirror_code : reqOp 0x3FFFFFFFFFFFFFFFF = 0x3#4 := by decide
theorem witness_SetPeakCurrentWritesFieldAndChip : s0.busy = false ∧ s0.resetState = .ready := ⟨rfl, rfl⟩
theorem witness_SetPeakCurrentWritesFieldAndChip_code : reqOp 0x4FFFFFFFFFFFFFFFF = 0x4#4 := by decide
theorem witness_GetPeakCurrentReadsMirror : s0.busy = false ∧ s0.resetState = .ready := ⟨rfl, rfl⟩
theorem witness_GetPeakCurrentReadsMirror_code : reqOp 0x5FFFFFFFFFFFFFFFF = 0x5#4 := by decide
theorem witness_BrightnessRoundTrip : s0.busy = false ∧ s0.resetState = .ready := ⟨rfl, rfl⟩
theorem witness_PeakCurrentRoundTrip : s0.busy = false ∧ s0.resetState = .ready := ⟨rfl, rfl⟩
theorem witness_ReapplyOrderIrrelevant : s0.busy = false ∧ s0.resetState = .ready := ⟨rfl, rfl⟩
theorem witness_BrightnessRoundTrip_in_range : (7 : Byte) ≤ 7 ∧ ¬ (8 : Byte) ≤ 7 := by decide
theorem witness_DigitSelectSendsDigit : s0.busy = false ∧ (7 : Byte) ≤ 7 := by decide
theorem witness_DigitSelectRefusesLargeDigit : s0.busy = false ∧ (7 : Byte) < 8 := by decide
theorem witness_WriteGlyphSendsSelectAndSevenRows : s0.busy = false ∧ (7 : Byte) ≤ 7 := by decide
theorem witness_WriteGlyphSendsSelectAndSevenRows_large : s0.busy = false ∧ (7 : Byte) < 8 := by decide
theorem witness_WriteGlyphSendsSelectAndSevenRows_code : reqOp 0x6FFFFFFFFFFFFFFFF = 0x6#4 := by decide
theorem witness_WriteGlyphDropsLargeDigit : s0.busy = false ∧ (7 : Byte) < 8 := by decide
theorem witness_WriteGlyphTraceShape : (7 : Byte) ≤ 7 ∧ ∃ t, exec (.writeGlyph 7 glyphA) s0 = .next t :=
  ⟨by decide, _, rfl⟩
theorem witness_RowCommandMasks : (0x1F : Byte).toNat ≤ 0x1F ∧ ¬ (0x20 : Byte).toNat ≤ 0x1F := by decide
theorem witness_CommandBytesDecodeBack :
    (0xEF#8 &&& 0xD0#8 = 0xC0#8) ∧ (0xA7#8 &&& 0xF8#8 = 0xA0#8) ∧ (0x1F#8 &&& 0xE0#8 = 0x00#8) ∧
    (0x20#8 &&& 0xD0#8 ≠ 0xC0#8 ∧ 0x20#8 &&& 0xF8#8 ≠ 0xA0#8 ∧ 0x20#8 &&& 0xE0#8 ≠ 0x00#8) ∧ (7 : Byte) ≤ 7 := by decide
theorem witness_RequestCodes :
    reqOp 0x0FFFFFFFFFFFFFFFF = 0x0#4 ∧ reqOp 0x10000000000000000 = 0x1#4 ∧ reqOp 0x20000000000000000 = 0x2#4 ∧
    reqOp 0x30000000000000000 = 0x3#4 ∧ reqOp 0x40000000000000000 = 0x4#4 ∧ reqOp 0x50000000000000000 = 0x5#4 ∧
    reqOp 0x60000000000000000 = 0x6#4 ∧ reqOp 0x7FFFFFFFFFFFFFFFF = 0x7#4 ∧ 0x8#4 ≤ reqOp 0x80000000000000000 ∧
    0x8#4 ≤ reqOp 0xFFFFFFFFFFFFFFFFF := by decide
theorem witness_DecodeEncode :
    (Instr.rowData 31).encodable = true ∧ (Instr.rowData 32).encodable = false ∧ (Instr.writeByte 0xD0).encodable = true ∧
    (Instr.digitSelect 7).encodable = true ∧ (Instr.writeGlyph 255 glyphHigh).encodable = true := by decide
theorem witness_EncodeDecode : reqOp 0x60795001F20A3E0FF = 0x6#4 ∧ (0xD0#8 &&& 0xD0#8 ≠ 0xC0#8) := by decide
theorem witness_IgnoredFieldsIgnored :
    reqOp 0x40100000000000000 = reqOp 0x4010000000000000F ∧ reqA 0x40100000000000000 = reqA 0x4010000000000000F ∧
    reqOp 0x40100000000000000 ≠ 0x6#4 := by decide
theorem witness_IgnoredFieldsIgnored_glyph :
    reqOp 0x60100000000000000 = 0x6#4 ∧ reqOp 0x60100000000000000 = reqOp 0x60100000000000000 := by decide
theorem witness_ReservedRequestsAreNoOperations_codes :
    0x7#4 ≤ reqOp 0x70000000000000000 ∧ 0x7#4 ≤ reqOp 0xFFFFFFFFFFFFFFFFF := by decide
theorem witness_ResetStateTransitions_during : (s0.accept 0).seq = .rstLow := rfl
theorem witness_NoConcurrentInvocation : midClear.busy = true := rfl
theorem witness_PreconditionFault :
    State.reset.busy = false ∧ State.reset.resetState = .unreset ∧ readsMirror .clear = some .clear ∧
      exec .clear State.reset = .fault (.preconditionViolated .clear) := ⟨rfl, rfl, rfl, rfl⟩

theorem witness_OperationSendsItsBytes : ∃ t, exec .clear s0 = .next t := ⟨_, rfl⟩
theorem witness_EncoderClosure : ∃ t, exec (.writeGlyph 7 glyphHigh) s0 = .next t := ⟨_, rfl⟩
theorem witness_EncoderClosure_ctrlWrite : ∃ t, exec .ctrlWrite s0 = .next t := ⟨_, rfl⟩
theorem witness_EncoderClosure_digitSelect : ∃ t, exec (.digitSelect 7) s0 = .next t := ⟨_, rfl⟩
theorem witness_EncoderClosure_rowData : ∃ t, exec (.rowData 0xFF) s0 = .next t := ⟨_, rfl⟩
theorem witness_LeastTimes : ∃ t, exec .clear s0 = .next t := ⟨_, rfl⟩
theorem witness_LeastTimes_reset : ∃ t, exec .reset s0 = .next t := ⟨_, rfl⟩
theorem witness_LineWriters : ∃ t, exec (.setBrightness 8) s0 = .next t := ⟨_, rfl⟩
theorem witness_LineWriters_reset : ∃ t, exec .reset s0 = .next t := ⟨_, rfl⟩
theorem witness_MirrorWriters_reset : ∃ t, exec .reset s0 = .next t := ⟨_, rfl⟩
theorem witness_MirrorWriters_clear : ∃ t, exec .clear s0 = .next t := ⟨_, rfl⟩
theorem witness_MirrorWriters_setBrightness : ∃ t, exec (.setBrightness 8) s0 = .next t := ⟨_, rfl⟩
theorem witness_MirrorWriters_setPeakCurrent : ∃ t, exec (.setPeakCurrent 2) s0 = .next t := ⟨_, rfl⟩
theorem witness_MirrorWriters_other : ∃ t, exec (.rowData 1) s0 = .next t := ⟨_, rfl⟩
theorem witness_ResetStateTransitions_other : ∃ t, exec .clear s0 = .next t := ⟨_, rfl⟩

/-- `s0` with a request on the port. -/
def s0Request : State := { s0 with host := [.call (.req 0x10000000000000000)] }

theorem witness_StepRunsRequest : s0Request.busy = false ∧ s0Request.host = .call (.req 0x10000000000000000) :: [] := ⟨rfl, rfl⟩
theorem witness_StepRunsDirectCall :
    ({ s0 with host := [.call (.wire 0xA3)] } : State).host = .call (.wire 0xA3) :: [] := rfl
theorem witness_RequestWaitsWhileBusy :
    ({ midClear with host := [.call (.req 0)] } : State).busy = true ∧
    ({ midClear with host := [.call (.req 0)] } : State).host = .call (.req 0) :: [] ∧ midClear.resetState = .ready :=
  ⟨rfl, rfl, rfl⟩
theorem witness_RequestWaitsWhileBusy_empty_port :
    midClear.busy = true ∧ midClear.host = [] ∧ midClear.resetState = .ready := ⟨rfl, rfl, rfl⟩
theorem witness_RequestWaitsWhileBusy_no_mirror :
    (State.reset.accept 0).busy = true ∧ (State.reset.accept 0).host = [] ∧
    latchedMirrorOp (State.reset.accept 0) = none ∧ (State.reset.accept 0).resetState = .unreset := ⟨rfl, rfl, rfl, rfl⟩
theorem witness_RequestWaitsWhileBusy_fault :
    (State.reset.accept 0x10000000000000000).busy = true ∧ (State.reset.accept 0x10000000000000000).host = [] ∧
    latchedMirrorOp (State.reset.accept 0x10000000000000000) = some .clear ∧
    (State.reset.accept 0x10000000000000000).resetState = .unreset := ⟨rfl, rfl, rfl, rfl⟩
theorem witness_IdleBlockWaits : s0.busy = false ∧ s0.host = [] := ⟨rfl, rfl⟩
theorem witness_PowerOnReset_busy :
    ({ midClear with host := [.assertRstN] } : State).host = .assertRstN :: [] ∧
    ({ midClear with host := [.assertRstN] } : State).busy = true := ⟨rfl, rfl⟩
theorem witness_PowerOnReset_idle :
    ({ s0 with host := [.assertRstN] } : State).host = .assertRstN :: [] ∧
    ({ s0 with host := [.assertRstN] } : State).busy = false := ⟨rfl, rfl⟩
theorem witness_ForeignDriverRefused :
    ({ s0 with host := [.foreignSet .data true] } : State).host = .foreignSet .data true :: [] := rfl
theorem witness_TraceOnlyGrows : (∃ t, step s0Request = .next t) ∧ ∀ rest, s0Request.host ≠ .assertRstN :: rest :=
  ⟨⟨_, rfl⟩, fun _ h => by cases h⟩

/-- READY after one control command of the mirror `{0, 1, 4}`, 0xEC, whose lines are the level view of its trace. -/
def s1 : State :=
  { s0Request with trace := resetEvents ++ frameEvents 0xEC, lines := levelsAfter Config.initLines (resetEvents ++ frameEvents 0xEC) }

theorem witness_MirrorInvariantKept : Idle s1 ∧ MirrorInv s1 ∧ ∃ t, step s1 = .next t := by
  refine ⟨⟨rfl, rfl⟩, fun _ => ⟨rfl, ?_, ?_⟩, _, rfl⟩
  · intro b h
    exact Option.some.inj (h.symm.trans (show traceLastCtrl s1.trace = some (encCtrl s1.mirror) by decide))
  · intro h
    exact absurd h (show traceLastCtrl s1.trace ≠ none by decide)
theorem witness_WriteByteCanBreakMirrorInvariant :
    s1.busy = false ∧ s1.resetState = .ready ∧ 0xE0#8 &&& 0xD0#8 = 0xC0#8 ∧ 0xE0#8 ≠ encCtrl s1.mirror := by decide
theorem witness_WriteByteCanBreakMirrorInvariant_keeps :
    MirrorInv s1 ∧ 0xD3#8 &&& 0xD0#8 ≠ 0xC0#8 ∧ 0xEC#8 = encCtrl s1.mirror :=
  ⟨witness_MirrorInvariantKept.2.1, by decide, by decide⟩
theorem witness_LevelViewKept : LevelView s1 ∧ ∃ t, step s1 = .next t := ⟨rfl, _, rfl⟩
theorem witness_IdleLevelsKept : Idle s1 ∧ IdleLevels s1 ∧ ∃ t, step s1 = .next t := by
  refine ⟨⟨rfl, rfl⟩, ⟨?_, fun _ => rfl⟩, _, rfl⟩
  intro b h
  have hb : b = 0xEC := Option.some.inj (h.symm.trans (show (traceBytes s1.trace).getLast? = some 0xEC by decide))
  subst hb
  exact ⟨rfl, rfl, rfl⟩
theorem witness_SequencerCarriesOutRequest :
    s0.busy = false ∧ ∃ t, exec (decode (.req 0x6021111111F11110E)) (s0.latchRequest 0x6021111111F11110E) = .next t :=
  ⟨rfl, _, rfl⟩
theorem witness_PrintStopsAtBufferEnd : HostText.initial.buffer.length = 8 ∧ (8 : Nat) ≤ 8 ∧ (0 : Nat) ≤ 8 := by decide

/-- A host whose font has one character, and whose buffer holds it eight times. -/
def h0 : HostText := { buffer := List.replicate 8 0x41, font := [(0x41, glyphA)] }

theorem witness_RenderWritesGlyphs :
    h0.buffer.length = 8 ∧ ∀ i < 8, ∃ c, h0.buffer[i]? = some c ∧ h0.lookup c = some glyphA :=
  ⟨rfl, fun i hi => ⟨0x41, by interval_cases i <;> rfl, rfl⟩⟩

end Sys2Proof.Tests
end

