-- ==== Sys2Proof/Proofs/OperationSendsItsBytes.lean ====
section
/-! What a completed operation appends to the trace, and what a checker of the trace reads in it: every operation but `RESET`
appends the frames of its bytes, and a frame carries one byte in eight clock pulses. -/

namespace Sys2Proof.Machine

/-! ## The checker reads a frame -/

/-- The byte made of some bits has the first eight of them, bit 0 first. -/
theorem getLsbD_byteOfBits (bs : List Bool) (i : Nat) :
    (byteOfBits bs).getLsbD i = (decide (i < 8) && bs.getD i false) := by
  induction bs generalizing i with
  | nil => simp [byteOfBits]
  | cons b bs ih =>
    have low (j : Nat) : (if b then (1 : Byte) else 0).getLsbD j = (decide (j = 0) && b) := by cases b <;> simp
    rw [byteOfBits, BitVec.getLsbD_or, BitVec.getLsbD_shiftLeft, low, ih]
    cases i with
    | zero => simp
    | succ j =>
      have inByte : j + 1 < 8 → j < 8 := by omega
      by_cases h : j + 1 < 8 <;> simp [h, inByte]

theorem byteOfBits_wireBits (b : Byte) : byteOfBits (wireBits b) = b := by
  apply BitVec.eq_of_getLsbD_eq
  intro i hi
  rw [getLsbD_byteOfBits]
  simp [wireBits, hi]

/-- A bit slot clocks in its bit, whatever DATA was before it. -/
theorem Rx.run_slotEvents (r : Rx) (v : Bool) :
    r.run (slotEvents v) = { r with data := v, bits := r.bits ++ [v] } := rfl

theorem Rx.run_slots (r : Rx) (vs : List Bool) :
    r.run (vs.flatMap slotEvents) = { r with data := vs.getLastD r.data, bits := r.bits ++ vs } := by
  induction vs generalizing r with
  | nil => simp [Rx.run]
  | cons v vs ih =>
    rw [List.flatMap_cons, Rx.run_append, Rx.run_slotEvents, ih, List.append_assoc, List.getLastD_cons]
    rfl

/-- A frame read from any point of a trace gives its byte, and the bytes before it stay (R41, R79). -/
theorem Rx.run_frameEvents (r : Rx) (b : Byte) :
    r.run (frameEvents b) =
      { data := b.getLsbD 7, bits := wireBits b, bytes := r.bytes ++ [b], lastCtrl := nextCtrl r.lastCtrl b } := by
  have slots : ({ r with bits := [] } : Rx).run ((wireBits b).flatMap slotEvents) =
      { r with data := b.getLsbD 7, bits := wireBits b } := Rx.run_slots _ _
  calc r.run (frameEvents b)
      = (({ r with bits := [] } : Rx).run ((wireBits b).flatMap slotEvents)).run [.set .load true, .wait .settle] :=
        Rx.run_append _ _ _
    _ = _ := by
        rw [slots]
        simp [Rx.run, Rx.onEvent, byteOfBits_wireBits]

theorem Rx.run_frames_bytes (r : Rx) (bs : List Byte) : (r.run (bs.flatMap frameEvents)).bytes = r.bytes ++ bs := by
  induction bs generalizing r with
  | nil => simp [Rx.run]
  | cons b bs ih => simp [Rx.run_append, ih, Rx.run_frameEvents]

theorem traceBytes_append_frames (es : List Event) (bs : List Byte) :
    traceBytes (es ++ bs.flatMap frameEvents) = traceBytes es ++ bs := by
  simp [traceBytes, Rx.run_append, Rx.run_frames_bytes]

/-- The reset pulse carries no byte. -/
theorem traceBytes_append_resetEvents (es : List Event) : traceBytes (es ++ resetEvents) = traceBytes es := by
  rw [traceBytes, Rx.run_append]
  rfl

/-! ## Clock pulses -/

theorem clockPulses_frameEvents (b : Byte) : clockPulses (frameEvents b) = 8 := rfl

theorem clockPulses_frames (bs : List Byte) : clockPulses (bs.flatMap frameEvents) = 8 * bs.length := by
  induction bs with
  | nil => rfl
  | cons b bs ih =>
    rw [List.flatMap_cons, clockPulses_append, clockPulses_frameEvents, ih, List.length_cons]
    omega

/-! ## What an operation appends -/

theorem digitInRange_iff_le (d : Byte) : digitInRange d = true ↔ d ≤ 7 := by
  rw [digitInRange, decide_eq_true_iff, BitVec.le_def]
  exact Nat.lt_succ_iff

/-- The table of R44 counts the bytes that R71 lists. -/
theorem length_bytesOf (s : State) (i : Instr) : (bytesOf s i).length = frameCount i := by
  cases i with
  | writeGlyph d g =>
    simp only [bytesOf, frameCount, digitInRange_iff_le]
    split <;> rfl
  | _ => rfl

theorem reached_reset_trace (s : State) : (reached s .reset).trace = s.trace ++ resetEvents := rfl

/-- Every operation but `RESET` appends the frames of its bytes and nothing else (R71). -/
theorem reached_trace (s : State) {i : Instr} (hi : i ≠ .reset) :
    (reached s i).trace = s.trace ++ (bytesOf s i).flatMap frameEvents := by
  cases i with
  | reset => exact absurd rfl hi
  | writeGlyph d g =>
    by_cases hd : digitInRange d <;> simp [reached, bytesOf, glyphBody, hd, sendBytes_spec]
  | clear => simp [reached, bytesOf, updateCtrl, sendCtrl, mirrorSetClear]
  | _ => simp [reached, bytesOf, updateCtrl, sendCtrl]

/-- Settles O34: `exec_next` gives the state reached; `RESET` appends its pulse, every other operation the frames of its
bytes. -/
theorem operationSendsItsBytes : Obligations.OperationSendsItsBytes := by
  intro i s t h
  obtain ⟨-, -, rfl⟩ := exec_next h
  by_cases hi : i = .reset
  · subst hi
    rw [reached_reset_trace, traceBytes_append_resetEvents, clockPulses_append]
    exact ⟨(List.append_nil _).symm, rfl, rfl⟩
  · rw [reached_trace s hi, traceBytes_append_frames, clockPulses_append, clockPulses_frames, length_bytesOf]
    exact ⟨rfl, rfl, rfl⟩

end Sys2Proof.Machine
end

