-- ==== Sys2Proof/Proofs/RowCommandMasks.lean ====
section
/-! The row command (R61): its mask is the remainder modulo 32 of the byte's value, and leaves bit 7 clear, which the bytes of
both other formats have set. -/

namespace Sys2Proof

theorem encRow_eq_and (v : Byte) : encRow v = v &&& 0x1F#8 := rfl

theorem toNat_encRow (v : Byte) : (encRow v).toNat = v.toNat % 32 :=
  Nat.and_two_pow_sub_one_eq_mod v.toNat 5

theorem getLsbD_seven_encRow (v : Byte) : (encRow v).getLsbD 7 = false := by
  simp [encRow]

/-- A row command fails every test of R69 whose expected bits include bit 7. -/
theorem encRow_and_ne (v mask : Byte) {want : Byte} (hwant : want.getLsbD 7 = true) : encRow v &&& mask ≠ want := by
  rintro rfl
  rw [BitVec.getLsbD_and, getLsbD_seven_encRow] at hwant
  cases hwant

theorem encRow_eq_self {v : Byte} (hv : v.toNat ≤ 0x1F) : encRow v = v :=
  BitVec.eq_of_toNat_eq ((toNat_encRow v).trans (Nat.mod_eq_of_lt (Nat.lt_succ_of_le hv)))

/-- Two bytes have the same row command when they agree modulo 32. -/
theorem encRow_ofNat_eq_iff (n : Nat) {r : Nat} (hr : r < 32) :
    encRow (BitVec.ofNat 8 n) = BitVec.ofNat 8 r ↔ n ≡ r [MOD 32] := by
  rw [← BitVec.toNat_inj, toNat_encRow, BitVec.toNat_ofNat, BitVec.toNat_ofNat, Nat.ModEq]
  omega

/-- Each row command has one input in every 32 bytes, so eight in 256. -/
theorem countP_encRow_eq {r : Nat} (hr : r < 32) :
    ((List.range 256).countP fun n => decide (encRow (BitVec.ofNat 8 n) = BitVec.ofNat 8 r)) = 8 := by
  simp only [encRow_ofNat_eq_iff _ hr]
  exact Nat.count_modEq_card 256 (by decide) r

/-- Settles O5: the value is the remainder modulo 32, and the other two formats have bit 7 set. -/
theorem rowCommandMasks : Obligations.RowCommandMasks := by
  refine ⟨fun v => ⟨encRow_eq_and v, ?range, encRow_and_ne v _ rfl, encRow_and_ne v _ rfl, encRow_eq_self⟩,
    fun r hr => countP_encRow_eq hr⟩
  case range =>
    rw [toNat_encRow]
    omega

end Sys2Proof
end

section
/-! `WRITE_GLYPH` (R94, R95): accepted or dropped, it completes by sending its list of bytes, which is empty for a digit above
7. Where it is not empty, the idle levels are those of its last byte. -/

namespace Sys2Proof

/-- The digit mask of R59 drops nothing from a digit that exists. -/
theorem encDsel_eq_or {d : Byte} (hd : d ≤ 7) : encDsel d = 0xA0#8 ||| d := by
  have mask : d &&& 0b111#8 = d :=
    BitVec.eq_of_toNat_eq ((Nat.and_two_pow_sub_one_eq_mod d.toNat 3).trans (Nat.mod_eq_of_lt (Nat.lt_succ_of_le hd)))
  rw [encDsel, mask]

/-- Request code 0x6 (R66). -/
theorem decode_req_of_reqOp_six {w : BitVec 68} (hw : reqOp w = 0x6#4) :
    decode (.req w) = .writeGlyph (reqA w) (reqG w) := by
  rw [decode, decodeRequest, hw]
  rfl

namespace Machine

/-! ## The bytes of a glyph write -/

theorem bytesOf_writeGlyph_of_lt (s : State) (g : Glyph) {d : Byte} (hd : 7 < d) : bytesOf s (.writeGlyph d g) = [] :=
  if_neg ((digitInRange_iff_le d).not.mpr (BitVec.not_le.mpr hd))

/-- The digit select and the first six rows, then the last row. -/
theorem bytesOf_writeGlyph_of_le (s : State) (g : Glyph) {d : Byte} (hd : d ≤ 7) :
    bytesOf s (.writeGlyph d g) =
      [0xA0#8 ||| d, encRow g.r0, encRow g.r1, encRow g.r2, encRow g.r3, encRow g.r4, encRow g.r5] ++ [encRow g.r6] := by
  rw [← encDsel_eq_or hd]
  exact if_pos ((digitInRange_iff_le d).mpr hd)

/-- After some frames the levels are those the last one leaves, whatever went before it (R26). -/
theorem levelsAfter_frames_concat (ls : Lines) (bs : List Byte) (b : Byte) :
    levelsAfter ls ((bs ++ [b]).flatMap frameEvents) = linesAfterByte ls b := by
  induction bs generalizing ls with
  | nil => rfl
  | cons a bs ih =>
    rw [List.cons_append, List.flatMap_cons, levelsAfter_append, levelsAfter_frame, ih]
    rfl

/-! ## Completion -/

theorem glyphBody_eq_sendBytes (d : Byte) (g : Glyph) (s : State) :
    glyphBody d g s = sendBytes (bytesOf s (.writeGlyph d g)) s := by
  by_cases hd : digitInRange d <;> simp [glyphBody, bytesOf, sendBytes, hd]

/-- An idle block completes every glyph write, in either reset state (R99), having sent its bytes and changed no register. -/
theorem completes_writeGlyph (d : Byte) (g : Glyph) {s : State} (hs : s.busy = false) :
    Completes (.writeGlyph d g) s ((bytesOf s (.writeGlyph d g)).flatMap frameEvents)
      (levelsAfter s.lines ((bytesOf s (.writeGlyph d g)).flatMap frameEvents)) s.mirror s.resetState 0 := by
  have body : reached s (.writeGlyph d g) = (sendBytes (bytesOf s (.writeGlyph d g)) s.start).complete 0 :=
    congrArg (State.complete 0) (glyphBody_eq_sendBytes d g s.start)
  obtain ⟨-, lines, mirror, resetState, -⟩ := sendBytes_spec (bytesOf s (.writeGlyph d g)) s.start
  refine ⟨reached s (.writeGlyph d g),
    ⟨unlessBusy_idle hs _, reached_trace s nofun, ?lines, ?mirror, ?resetState, reached_idle s hs _⟩, rfl, rfl⟩
  case lines => rw [body]; exact lines
  case mirror => rw [body]; exact mirror
  case resetState => rw [body]; exact resetState

/-- Settles O17: the bytes of a glyph write in the two ranges of its digit, put into `completes_writeGlyph`. -/
theorem writeGlyphSendsSelectAndSevenRows : Obligations.WriteGlyphSendsSelectAndSevenRows := by
  refine ⟨fun d g s hs hd => ?dropped, fun w => decode_req_of_reqOp_six, fun d g s hs hd => ?accepted⟩
  case dropped =>
    have sent := completes_writeGlyph d g hs
    rwa [bytesOf_writeGlyph_of_lt s g hd] at sent
  case accepted =>
    have sent := completes_writeGlyph d g hs
    rw [bytesOf_writeGlyph_of_le s g hd, levelsAfter_frames_concat] at sent
    simpa only [List.cons_append, List.nil_append, List.flatMap_cons, List.flatMap_nil, List.append_nil, List.append_assoc,
      encRow_eq_and] using sent

end Machine

end Sys2Proof
end

section
/-! The control operations (42_control.md): what a requested operation that reads the mirror does in either reset state is said
once, for all five of them; each statement then adds the values of its own field, byte and response. -/

namespace Sys2Proof

/-! ## Request codes 0x0 to 0x5 (R66) -/

theorem decode_req_of_reqOp_zero {w : BitVec 68} (hw : reqOp w = 0x0#4) : decode (.req w) = .reset := by
  rw [decode, decodeRequest, hw]
  rfl

theorem decode_req_of_reqOp_one {w : BitVec 68} (hw : reqOp w = 0x1#4) : decode (.req w) = .clear := by
  rw [decode, decodeRequest, hw]
  rfl

theorem decode_req_of_reqOp_two {w : BitVec 68} (hw : reqOp w = 0x2#4) : decode (.req w) = .setBrightness (reqA w) := by
  rw [decode, decodeRequest, hw]
  rfl

theorem decode_req_of_reqOp_three {w : BitVec 68} (hw : reqOp w = 0x3#4) : decode (.req w) = .getBrightness := by
  rw [decode, decodeRequest, hw]
  rfl

theorem decode_req_of_reqOp_four {w : BitVec 68} (hw : reqOp w = 0x4#4) : decode (.req w) = .setPeakCurrent (reqA w) := by
  rw [decode, decodeRequest, hw]
  rfl

theorem decode_req_of_reqOp_five {w : BitVec 68} (hw : reqOp w = 0x5#4) : decode (.req w) = .getPeakCurrent := by
  rw [decode, decodeRequest, hw]
  rfl

namespace Machine

/-! ## Operands, responses and bit 5 of the control command -/

/-- R62: the mask keeps the remainder modulo 8, so the inversion fits in three bits. -/
theorem toNat_wireBrightness (b : Byte) : (wireBrightness b).toNat = 7 - b.toNat % 8 := by
  have mask : (b &&& 0b111#8).toNat = b.toNat % 8 := Nat.and_two_pow_sub_one_eq_mod b.toNat 3
  rw [wireBrightness, mask, BitVec.toNat_ofNat]
  omega

theorem toNat_apiBrightness (br : BitVec 3) : (apiBrightness br).toNat = 7 - br.toNat := by
  rw [apiBrightness, BitVec.toNat_ofNat]
  omega

theorem peakBit_eq_decide (p : Byte) : peakBit p = decide (p.toNat % 2 = 1) :=
  Nat.testBit_zero p.toNat

/-- R55: C is NOT clear, so asserting `clear` takes bit 5 out of the command and touches no other bit. -/
theorem encCtrl_mirrorSetClear_true (m : Mirror) : encCtrl (mirrorSetClear true m) = encCtrl m &&& 0xDF#8 := by
  obtain ⟨clear, pcl, br⟩ := m
  revert clear pcl br
  decide

theorem encCtrl_mirrorSetClear_false (m : Mirror) : encCtrl (mirrorSetClear false m) = encCtrl m ||| 0x20#8 := by
  obtain ⟨clear, pcl, br⟩ := m
  revert clear pcl br
  decide

theorem getLsbD_seven_encCtrl (m : Mirror) : (encCtrl m).getLsbD 7 = true := by
  simp [encCtrl]

/-! ## What a requested operation leaves -/

/-- R150: an idle block still UNRESET stops every operation that reads the mirror, with that operation's name. -/
theorem exec_unreset {i : Instr} {op : MirrorOp} {s : State} (hi : readsMirror i = some op) (hs : s.busy = false)
    (hr : s.resetState = .unreset) : exec i s = .fault (.preconditionViolated op) := by
  have stops (op : MirrorOp) (k : Result) : unlessBusy s (requireReady op s k) = .fault (.preconditionViolated op) :=
    (unlessBusy_idle hs _).trans (requireReady_unreset hr op k)
  cases i <;> cases hi <;> exact stops _ _

@[simp] theorem updateCtrl_lines (f : Mirror → Mirror) (s : State) :
    (updateCtrl f s).lines = linesAfterByte s.lines (encCtrl (f s.mirror)) := rfl
@[simp] theorem updateCtrl_mirror (f : Mirror → Mirror) (s : State) : (updateCtrl f s).mirror = f s.mirror := rfl
@[simp] theorem updateCtrl_resetState (f : Mirror → Mirror) (s : State) : (updateCtrl f s).resetState = s.resetState := rfl

theorem reached_writeGlyph (s : State) (d : Byte) (g : Glyph) :
    reached s (.writeGlyph d g) = (sendBytes (bytesOf s (.writeGlyph d g)) s.start).complete 0 :=
  congrArg (State.complete 0) (glyphBody_eq_sendBytes d g s.start)

/-- The lines follow the frames, and only the frames, of every operation but `RESET`. -/
theorem reached_lines (s : State) {i : Instr} (hi : i ≠ .reset) :
    (reached s i).lines = levelsAfter s.lines ((bytesOf s i).flatMap frameEvents) := by
  cases i with
  | reset => exact absurd rfl hi
  | writeGlyph d g =>
    obtain ⟨-, lines, -⟩ := sendBytes_spec (bytesOf s (.writeGlyph d g)) s.start
    rw [reached_writeGlyph]
    exact lines
  | clear => simp [reached, bytesOf, mirrorSetClear, levelsAfter_append, levelsAfter_frame]
  | _ => simp [reached, bytesOf, sendCtrl, levelsAfter_frame]

theorem reached_resetState (s : State) {i : Instr} (hi : i ≠ .reset) : (reached s i).resetState = s.resetState := by
  cases i with
  | reset => exact absurd rfl hi
  | writeGlyph d g =>
    obtain ⟨-, -, -, resetState, -⟩ := sendBytes_spec (bytesOf s (.writeGlyph d g)) s.start
    rw [reached_writeGlyph]
    exact resetState
  | _ => simp [reached, sendCtrl]

/-- The response port answers a request and no direct call (R30, log 8). -/
theorem reached_rspValid (s : State) (i : Instr) : (reached s i).rspValid = i.hostVisible := by
  cases i <;> rfl

/-- A requested operation that reads the mirror completes from an idle, READY block; it sends its bytes and the lines are what
their frames leave. -/
theorem completes_ready {i : Instr} {op : MirrorOp} {s : State} (hi : readsMirror i = some op) (hv : i.hostVisible = true)
    (hs : s.busy = false) (hr : s.resetState = .ready) :
    Completes i s ((bytesOf s i).flatMap frameEvents) (levelsAfter s.lines ((bytesOf s i).flatMap frameEvents))
      (reached s i).mirror .ready (reached s i).rspData := by
  have notReset : i ≠ .reset := by
    rintro rfl
    cases hi
  exact ⟨reached s i,
    ⟨exec_ready hi hs hr, reached_trace s notReset, reached_lines s notReset, rfl, (reached_resetState s notReset).trans hr,
      reached_idle s hs i⟩,
    (reached_rspValid s i).trans hv, rfl⟩

/-- A requested operation that sends one byte leaves that byte's frame and its idle levels (R26). -/
theorem completes_ready_of_one_byte {i : Instr} {op : MirrorOp} {s : State} {b : Byte} (hb : bytesOf s i = [b])
    (hi : readsMirror i = some op) (hv : i.hostVisible = true) (hs : s.busy = false) (hr : s.resetState = .ready) :
    Completes i s (frameEvents b) (linesAfterByte s.lines b) (reached s i).mirror .ready (reached s i).rspData := by
  have sent := completes_ready hi hv hs hr
  rwa [hb, List.flatMap_singleton, levelsAfter_frame] at sent

/-! ## The statements -/

/-- Settles O20: the block is not asked for READY, and the pulse leaves only the RESET line, high. -/
theorem resetPulsesAndSetsDefaults : Obligations.ResetPulsesAndSetsDefaults :=
  ⟨fun _ => decode_req_of_reqOp_zero, fun s hs =>
    ⟨reached s .reset, ⟨unlessBusy_idle hs _, reached_reset_trace s, rfl, rfl, rfl, reached_idle s hs _⟩, rfl, rfl⟩⟩

/-- Settles O21: the two commands differ from that of the old mirror in bit 5 alone, and the last has bit 7 set. -/
theorem clearPulsesBitFive : Obligations.ClearPulsesBitFive := by
  refine ⟨fun _ => decode_req_of_reqOp_one, fun s => exec_unreset rfl, fun s hs hr => ?_⟩
  have bytes : bytesOf s .clear = [encCtrl s.mirror &&& 0xDF#8] ++ [encCtrl s.mirror ||| 0x20#8] := by
    rw [← encCtrl_mirrorSetClear_true, ← encCtrl_mirrorSetClear_false]
    rfl
  have levels : linesAfterByte s.lines (encCtrl s.mirror ||| 0x20#8) =
      { data := true, clock := false, load := true, reset := s.lines.reset } := by
    rw [← encCtrl_mirrorSetClear_false, linesAfterByte, getLsbD_seven_encCtrl]
  have sent := completes_ready (i := .clear) rfl rfl hs hr
  rwa [bytes, levelsAfter_frames_concat, levels, List.flatMap_append, List.flatMap_singleton, List.flatMap_singleton] at sent

/-- Settles O22: one command, of the mirror with the inverted brightness. -/
theorem setBrightnessWritesFieldAndChip : Obligations.SetBrightnessWritesFieldAndChip :=
  ⟨fun _ => decode_req_of_reqOp_two, fun _ _ => exec_unreset rfl, fun b s hs hr =>
    ⟨mirrorSetBrightness b s.mirror, toNat_wireBrightness b, rfl, rfl, completes_ready_of_one_byte rfl rfl rfl hs hr⟩⟩

/-- Settles O23: no byte, so no event; the response is 7 less the mirror's field. -/
theorem getBrightnessReadsMirror : Obligations.GetBrightnessReadsMirror :=
  ⟨fun _ => decode_req_of_reqOp_three, fun _ => exec_unreset rfl, fun s hs hr =>
    ⟨apiBrightness s.mirror.br, toNat_apiBrightness s.mirror.br, completes_ready (i := .getBrightness) rfl rfl hs hr⟩⟩

/-- Settles O24: one command, of the mirror with bit 0 of the operand. -/
theorem setPeakCurrentWritesFieldAndChip : Obligations.SetPeakCurrentWritesFieldAndChip :=
  ⟨fun _ => decode_req_of_reqOp_four, fun _ _ => exec_unreset rfl, fun p s hs hr =>
    ⟨mirrorSetPeak p s.mirror, by rw [mirrorSetPeak, peakBit_eq_decide],
      completes_ready_of_one_byte rfl rfl rfl hs hr⟩⟩

/-- Settles O25: no byte, so no event; the response is the mirror's field. -/
theorem getPeakCurrentReadsMirror : Obligations.GetPeakCurrentReadsMirror :=
  ⟨fun _ => decode_req_of_reqOp_five, fun _ => exec_unreset rfl, fun _ hs hr =>
    completes_ready (i := .getPeakCurrent) rfl rfl hs hr⟩

end Machine

end Sys2Proof
end

section
/-! Exceptions (60_exceptions.md): the out-of-range digit of a glyph write, dropped without a fault (R141). -/

namespace Sys2Proof

namespace Machine

/-- Settles O18: this is the first clause of O17, where a glyph write with a digit above 7 has no bytes to send. -/
theorem writeGlyphDropsLargeDigit : Obligations.WriteGlyphDropsLargeDigit := by
  obtain ⟨dropped, -, -⟩ := writeGlyphSendsSelectAndSevenRows
  exact dropped

end Machine

end Sys2Proof
end

section
/-! The encodings (30_encoding.md): the three tests of R69 exclude each other, the fields of a request word are read back
from it, and so decoding undoes encoding. -/

namespace Sys2Proof

/-! ## The command formats exclude each other (R54, R69) -/

theorem dsel_format_ne_ctrl : ∀ {c : Byte}, c &&& 0xF8#8 = 0xA0#8 → c &&& 0xD0#8 ≠ 0xC0#8 := by decide

theorem row_format_ne_ctrl : ∀ {c : Byte}, c &&& 0xE0#8 = 0x00#8 → c &&& 0xD0#8 ≠ 0xC0#8 := by decide

theorem row_format_ne_dsel : ∀ {c : Byte}, c &&& 0xE0#8 = 0x00#8 → c &&& 0xF8#8 ≠ 0xA0#8 := by decide

theorem decodeByte_of_ctrl {c : Byte} (hc : c &&& 0xD0#8 = 0xC0#8) :
    decodeByte c = .ctrl { clear := !c.getLsbD 5, pcl := c.getLsbD 3, br := c.setWidth 3 } := by
  rw [decodeByte, if_pos hc, ← BitVec.setWidth_eq_extractLsb' (by decide), Config.pBit]

theorem decodeByte_of_dsel {c : Byte} (hc : c &&& 0xF8#8 = 0xA0#8) : decodeByte c = .dsel (c.setWidth 3) := by
  rw [decodeByte, if_neg (dsel_format_ne_ctrl hc), if_pos hc, BitVec.setWidth_eq_extractLsb' (by decide)]

theorem decodeByte_of_row {c : Byte} (hc : c &&& 0xE0#8 = 0x00#8) : decodeByte c = .row (c.setWidth 5) := by
  rw [decodeByte, if_neg (row_format_ne_ctrl hc), if_neg (row_format_ne_dsel hc), if_pos hc,
    BitVec.setWidth_eq_extractLsb' (by decide)]

theorem decodeByte_of_no_format {c : Byte} (hctrl : c &&& 0xD0#8 ≠ 0xC0#8) (hdsel : c &&& 0xF8#8 ≠ 0xA0#8)
    (hrow : c &&& 0xE0#8 ≠ 0x00#8) : decodeByte c = .notEmitted := by
  rw [decodeByte, if_neg hctrl, if_neg hdsel, if_neg hrow]

/-- A byte has one of the three formats or none. -/
theorem byte_format_cases (c : Byte) :
    c &&& 0xD0#8 = 0xC0#8 ∨ c &&& 0xF8#8 = 0xA0#8 ∨ c &&& 0xE0#8 = 0x00#8 ∨ decodeByte c = .notEmitted := by
  by_cases hctrl : c &&& 0xD0#8 = 0xC0#8
  · exact .inl hctrl
  by_cases hdsel : c &&& 0xF8#8 = 0xA0#8
  · exact .inr (.inl hdsel)
  by_cases hrow : c &&& 0xE0#8 = 0x00#8
  · exact .inr (.inr (.inl hrow))
  exact .inr (.inr (.inr (decodeByte_of_no_format hctrl hdsel hrow)))

/-! ## What the three encoding functions write -/

/-- R54, R55: every control command is of the `CTRL` format. -/
theorem encCtrl_format (m : Mirror) : encCtrl m &&& 0xD0#8 = 0xC0#8 := by
  obtain ⟨clear, pcl, br⟩ := m
  revert clear pcl br
  decide

theorem encDsel_format : ∀ d : Byte, encDsel d &&& 0xF8#8 = 0xA0#8 := by decide

theorem encRow_format : ∀ v : Byte, encRow v &&& 0xE0#8 = 0x00#8 := by decide

/-- R57: `1 1 C 0 P B B B`. -/
theorem encCtrl_layout (m : Mirror) :
    (encCtrl m).getLsbD 7 = true ∧ (encCtrl m).getLsbD 6 = true ∧ (encCtrl m).getLsbD 5 = !m.clear ∧
      (encCtrl m).getLsbD 4 = false ∧ (encCtrl m).getLsbD 3 = m.pcl ∧ (encCtrl m).setWidth 3 = m.br := by
  obtain ⟨clear, pcl, br⟩ := m
  revert clear pcl br
  decide

theorem decodeByte_encCtrl (m : Mirror) : decodeByte (encCtrl m) = .ctrl m := by
  obtain ⟨-, -, clear, -, pcl, br⟩ := encCtrl_layout m
  rw [decodeByte_of_ctrl (encCtrl_format m), clear, pcl, br, Bool.not_not]

theorem decodeByte_encDsel (d : Byte) : decodeByte (encDsel d) = .dsel (d.setWidth 3) := by
  have low : ∀ d : Byte, (encDsel d).setWidth 3 = d.setWidth 3 := by decide
  rw [decodeByte_of_dsel (encDsel_format d), low]

theorem decodeByte_encRow (v : Byte) : decodeByte (encRow v) = .row (v.setWidth 5) := by
  have low : ∀ v : Byte, (encRow v).setWidth 5 = v.setWidth 5 := by decide
  rw [decodeByte_of_row (encRow_format v), low]

/-- The digit of a digit-select byte, encoded again, is the byte. -/
theorem encDsel_digit : ∀ {c : Byte}, c &&& 0xF8#8 = 0xA0#8 → encDsel ((c.setWidth 3).setWidth 8) = c := by decide

theorem encRow_pattern : ∀ {c : Byte}, c &&& 0xE0#8 = 0x00#8 → encRow ((c.setWidth 5).setWidth 8) = c := by decide

/-! ## The fields of a request word (R65) -/

theorem reqOp_requestWord (op : BitVec 4) (a : Byte) (g : BitVec 56) : reqOp (requestWord op a g) = op :=
  BitVec.extractLsb'_append_eq_left

theorem reqA_requestWord (op : BitVec 4) (a : Byte) (g : BitVec 56) : reqA (requestWord op a g) = a := by
  have low : reqA (requestWord op a g) = (a ++ g).extractLsb' 56 8 := BitVec.extractLsb'_append_eq_of_add_le (by decide)
  rw [low, BitVec.extractLsb'_append_eq_left]

/-- Neighbouring fields of a word, put together again. -/
theorem extract_append_low {w : BitVec 68} {n len : Nat} {low : BitVec n} (hlow : low = w.extractLsb' 0 n) :
    w.extractLsb' n len ++ low = w.extractLsb' 0 (len + n) := by
  rw [hlow]
  exact BitVec.extractLsb'_append_extractLsb'_eq_extractLsb' (Nat.zero_add n).symm

theorem packGlyph_reqG (w : BitVec 68) : packGlyph (reqG w) = w.extractLsb' 0 56 :=
  extract_append_low (extract_append_low (extract_append_low (extract_append_low (extract_append_low
    (extract_append_low rfl)))))

/-- A request word is its three fields. -/
theorem requestWord_fields (w : BitVec 68) : requestWord (reqOp w) (reqA w) (packGlyph (reqG w)) = w :=
  (extract_append_low (extract_append_low (packGlyph_reqG w))).trans BitVec.extractLsb'_eq_self

theorem byte_append_inj {n : Nat} {x x' : Byte} {y y' : BitVec n} (h : x ++ y = x' ++ y') : x = x' ∧ y = y' := by
  have high := congrArg (BitVec.extractLsb' n 8) h
  have low := congrArg (BitVec.extractLsb' 0 n) h
  rw [BitVec.extractLsb'_append_eq_left, BitVec.extractLsb'_append_eq_left] at high
  rw [BitVec.extractLsb'_append_eq_right, BitVec.extractLsb'_append_eq_right] at low
  exact ⟨high, low⟩

theorem packGlyph_injective {g g' : Glyph} (h : packGlyph g = packGlyph g') : g = g' := by
  obtain ⟨r0, r1, r2, r3, r4, r5, r6⟩ := g
  obtain ⟨r0', r1', r2', r3', r4', r5', r6'⟩ := g'
  obtain ⟨rfl, h⟩ := byte_append_inj h
  obtain ⟨rfl, h⟩ := byte_append_inj h
  obtain ⟨rfl, h⟩ := byte_append_inj h
  obtain ⟨rfl, h⟩ := byte_append_inj h
  obtain ⟨rfl, h⟩ := byte_append_inj h
  obtain ⟨rfl, rfl⟩ := byte_append_inj h
  rfl

/-- The glyph field is the low 56 bits, and packing drops no bit of a glyph. -/
theorem reqG_requestWord (op : BitVec 4) (a : Byte) (g : Glyph) : reqG (requestWord op a (packGlyph g)) = g := by
  have low : (requestWord op a (packGlyph g)).extractLsb' 0 56 = (a ++ packGlyph g).extractLsb' 0 56 :=
    BitVec.extractLsb'_append_eq_of_add_le (by decide)
  apply packGlyph_injective
  rw [packGlyph_reqG, low, BitVec.extractLsb'_append_eq_right]

/-! ## The operation code (R66, R67) -/

theorem decode_req_of_reqOp_seven {w : BitVec 68} (hw : reqOp w = 0x7#4) : decode (.req w) = .reservedReq7 := by
  rw [decode, decodeRequest, hw]
  rfl

theorem decode_req_of_eight_le_reqOp {w : BitVec 68} (hw : 0x8#4 ≤ reqOp w) :
    decode (.req w) = .reservedReq8F (w.extractLsb' 64 3) := by
  have code : 8 ≤ (reqOp w).toNat := hw
  rw [decode, decodeRequest]
  split <;> first | omega | rfl

/-- The sixteen operation codes: seven operations and two reserved rows. -/
theorem reqOp_cases (w : BitVec 68) :
    reqOp w = 0x0#4 ∨ reqOp w = 0x1#4 ∨ reqOp w = 0x2#4 ∨ reqOp w = 0x3#4 ∨ reqOp w = 0x4#4 ∨ reqOp w = 0x5#4 ∨
      reqOp w = 0x6#4 ∨ reqOp w = 0x7#4 ∨ 0x8#4 ≤ reqOp w := by
  generalize reqOp w = op
  revert op
  decide

/-- R66: no request names an internal operation. -/
theorem hostVisible_decode_req (w : BitVec 68) : (decode (.req w)).hostVisible = true := by
  rw [decode, decodeRequest]
  split <;> rfl

/-- The three bits of a reserved code that its operation keeps are the low bits of the operation code. -/
theorem reserved_bits_eq_reqOp (w : BitVec 68) : w.extractLsb' 64 3 = (reqOp w).setWidth 3 :=
  (BitVec.setWidth_extractLsb'_of_le (by decide)).symm

/-! ## The statements -/

/-- Settles O10: a byte's row is the format its encoding function writes, and a request's operation and operands are the
fields of its word. -/
theorem decodeEncode : Obligations.DecodeEncode := by
  intro i hi
  cases i with
  | writeByte b =>
    have noFormat : decodeByte b = .notEmitted := of_decide_eq_true hi
    rw [encode, decode, decodeWire, noFormat]
  | ctrlWrite => rw [encode, decode, decodeWire, decodeByte_encCtrl]
  | digitSelect d =>
    have digit : ∀ d : Byte, d.toNat < 8 → (d.setWidth 3).setWidth 8 = d := by decide
    rw [encode, decode, decodeWire, decodeByte_encDsel]
    exact congrArg Instr.digitSelect (digit d (of_decide_eq_true hi))
  | rowData v =>
    have row : ∀ v : Byte, v.toNat < 32 → (v.setWidth 5).setWidth 8 = v := by decide
    rw [encode, decode, decodeWire, decodeByte_encRow]
    exact congrArg Instr.rowData (row v (of_decide_eq_true hi))
  | reset => exact decode_req_of_reqOp_zero (reqOp_requestWord _ _ _)
  | clear => exact decode_req_of_reqOp_one (reqOp_requestWord _ _ _)
  | setBrightness b =>
    exact (decode_req_of_reqOp_two (reqOp_requestWord _ _ _)).trans (congrArg _ (reqA_requestWord _ _ _))
  | getBrightness => exact decode_req_of_reqOp_three (reqOp_requestWord _ _ _)
  | setPeakCurrent p =>
    exact (decode_req_of_reqOp_four (reqOp_requestWord _ _ _)).trans (congrArg _ (reqA_requestWord _ _ _))
  | getPeakCurrent => exact decode_req_of_reqOp_five (reqOp_requestWord _ _ _)
  | writeGlyph d g =>
    exact (decode_req_of_reqOp_six (reqOp_requestWord _ _ _)).trans
      (congrArg₂ _ (reqA_requestWord _ _ _) (reqG_requestWord _ _ _))
  | reservedReq7 => exact decode_req_of_reqOp_seven (reqOp_requestWord _ _ _)
  | reservedReq8F lo =>
    have code : ∀ lo : BitVec 3, 0x8#4 ≤ 1#1 ++ lo ∧ (1#1 ++ lo).setWidth 3 = lo := by decide
    obtain ⟨reserved, low⟩ := code lo
    rw [encode, decode_req_of_eight_le_reqOp ((reqOp_requestWord _ _ _).symm ▸ reserved), reserved_bits_eq_reqOp,
      reqOp_requestWord, low]

/-- Settles O11: a glyph request is its three fields, and a byte that is no control command is encoded by the row of its
format. -/
theorem encodeDecode : Obligations.EncodeDecode := by
  refine ⟨fun w hw => ?glyph, fun c hc => ?byte⟩
  case glyph =>
    have code :
        encode (.writeGlyph (reqA w) (reqG w)) = .req (requestWord (reqOp w) (reqA w) (packGlyph (reqG w))) := by
      rw [hw]
      rfl
    rw [decode_req_of_reqOp_six hw, code, requestWord_fields]
  case byte =>
    rw [decode, decodeWire]
    rcases byte_format_cases c with hctrl | hdsel | hrow | hnone
    · exact absurd hctrl hc
    · rw [decodeByte_of_dsel hdsel]
      exact congrArg Code.wire (encDsel_digit hdsel)
    · rw [decodeByte_of_row hrow]
      exact congrArg Code.wire (encRow_pattern hrow)
    · rw [hnone, encode]

/-- Settles O12: for each operation code the operation is made of the fields the two words share. -/
theorem ignoredFieldsIgnored : Obligations.IgnoredFieldsIgnored := by
  intro w v hop hA hG
  rcases reqOp_cases w with h | h | h | h | h | h | h | h | h
  · rw [decode_req_of_reqOp_zero h, decode_req_of_reqOp_zero (hop ▸ h)]
  · rw [decode_req_of_reqOp_one h, decode_req_of_reqOp_one (hop ▸ h)]
  · rw [decode_req_of_reqOp_two h, decode_req_of_reqOp_two (hop ▸ h), hA (.inl h)]
  · rw [decode_req_of_reqOp_three h, decode_req_of_reqOp_three (hop ▸ h)]
  · rw [decode_req_of_reqOp_four h, decode_req_of_reqOp_four (hop ▸ h), hA (.inr (.inl h))]
  · rw [decode_req_of_reqOp_five h, decode_req_of_reqOp_five (hop ▸ h)]
  · rw [decode_req_of_reqOp_six h, decode_req_of_reqOp_six (hop ▸ h), hA (.inr (.inr h)), hG h]
  · rw [decode_req_of_reqOp_seven h, decode_req_of_reqOp_seven (hop ▸ h)]
  · rw [decode_req_of_eight_le_reqOp h, decode_req_of_eight_le_reqOp (hop ▸ h), reserved_bits_eq_reqOp,
      reserved_bits_eq_reqOp v, hop]

/-- Settles O4: the byte determines the mirror because the checker reads the mirror back from it. -/
theorem ctrlCommandLayout : Obligations.CtrlCommandLayout := by
  refine ⟨fun m => ?layout, fun m n h => ?injective, by decide⟩
  case layout =>
    rw [← BitVec.setWidth_eq_extractLsb' (by decide)]
    exact encCtrl_layout m
  case injective =>
    have read : WireCmd.ctrl m = .ctrl n := by rw [← decodeByte_encCtrl, h, decodeByte_encCtrl]
    exact WireCmd.ctrl.inj read

/-- Settles O6: the tests exclude each other, so their order does not matter. -/
theorem commandBytesDecodeBack : Obligations.CommandBytesDecodeBack := by
  refine ⟨fun c => ⟨decodeByte_of_ctrl, decodeByte_of_dsel, decodeByte_of_row, decodeByte_of_no_format⟩,
    decodeByte_encCtrl, fun d _ => decodeByte_encDsel d, fun v => ?_⟩
  have masked : ∀ v : Byte, v.setWidth 5 = (v &&& 0x1F#8).setWidth 5 := by decide
  rw [decodeByte_encRow, masked]

/-- Settles O8: one decoding lemma per operation code. -/
theorem requestCodes : Obligations.RequestCodes := fun w =>
  ⟨decode_req_of_reqOp_zero, decode_req_of_reqOp_one, decode_req_of_reqOp_two, decode_req_of_reqOp_three,
    decode_req_of_reqOp_four, decode_req_of_reqOp_five, decode_req_of_reqOp_six, decode_req_of_reqOp_seven,
    decode_req_of_eight_le_reqOp, hostVisible_decode_req w⟩

/-- Settles O9: each word is decoded by evaluation. -/
theorem sampleWordsDecode : Obligations.SampleWordsDecode := by
  unfold Obligations.SampleWordsDecode
  decide

namespace Machine

/-! ## The command space (R40) -/

/-- The mask of a format's row in the map of the command space. -/
def WireFormat.mask : WireFormat → Byte
  | .ctrl => 0xD0
  | .dsel => 0xF8
  | .row => 0xE0

/-- The match of a format's row in the map of the command space. -/
def WireFormat.want : WireFormat → Byte
  | .ctrl => 0xC0
  | .dsel => 0xA0
  | .row => 0x00

/-- The checker reads a byte as of a format exactly where the byte matches the format's row. -/
theorem formatOf_decodeByte_eq_some_iff (c : Byte) (f : WireFormat) :
    formatOf (decodeByte c) = some f ↔ c &&& f.mask = f.want := by
  constructor
  · intro h
    rcases byte_format_cases c with hc | hc | hc | hc
    · rw [decodeByte_of_ctrl hc] at h; cases h; exact hc
    · rw [decodeByte_of_dsel hc] at h; cases h; exact hc
    · rw [decodeByte_of_row hc] at h; cases h; exact hc
    · rw [hc] at h; cases h
  · intro h
    cases f with
    | ctrl => rw [decodeByte_of_ctrl h, formatOf]
    | dsel => rw [decodeByte_of_dsel h, formatOf]
    | row => rw [decodeByte_of_row h, formatOf]

/-- A count up to `m * n`, in `m` stretches of `n`. -/
theorem countP_range_mul (p : Nat → Bool) (m n : Nat) :
    (List.range (m * n)).countP p = ((List.range m).map fun i => (List.range n).countP fun j => p (i * n + j)).sum := by
  induction m with
  | zero => rw [Nat.zero_mul]; rfl
  | succ m ih =>
    rw [Nat.succ_mul, List.range_add, List.countP_append, ih, List.countP_map, List.range_succ, List.map_append,
      List.sum_append]
    rfl

/-- Settles O7: each row is its match and mask, and the masks are counted in sixteen stretches. -/
theorem commandSpaceCounts : Obligations.CommandSpaceCounts := by
  refine ⟨fun c => ⟨formatOf_decodeByte_eq_some_iff c .ctrl, formatOf_decodeByte_eq_some_iff c .dsel,
    formatOf_decodeByte_eq_some_iff c .row⟩, ?_⟩
  have stretches (p : Nat → Bool) := countP_range_mul p 16 16
  simp only [formatOf_decodeByte_eq_some_iff, Nat.reduceMul] at stretches ⊢
  simp only [stretches]
  decide

end Machine

end Sys2Proof
end

section
/-! The sequencer (R16): phase by phase it reaches the state of the atomic operation. A frame is eight bit slots between
LOAD_LOW and SETTLE, an operation is a list of frames, and the pieces are put together by `BusyRun.trans`. -/

namespace Sys2Proof.Machine

/-! ## Runs of the sequencer -/

/-- `n` phases lead from `s` to `t`, and BUSY is 1 before each of them. -/
def BusyRun (n : Nat) (s t : State) : Prop := tick^[n] s = t ∧ ∀ k < n, (tick^[k] s).busy = true

theorem BusyRun.refl (s : State) : BusyRun 0 s s := ⟨rfl, nofun⟩

theorem BusyRun.tick {s t : State} (hs : s.busy = true) (ht : tick s = t) : BusyRun 1 s t := by
  refine ⟨ht, fun k hk => ?_⟩
  obtain rfl : k = 0 := by omega
  exact hs

theorem BusyRun.trans {m n l : Nat} {s t u : State} (hst : BusyRun m s t) (htu : BusyRun n t u)
    (hl : m + n = l := by omega) : BusyRun l s u := by
  subst hl
  obtain ⟨rfl, busyFirst⟩ := hst
  obtain ⟨rfl, busyThen⟩ := htu
  refine ⟨by rw [Nat.add_comm, Function.iterate_add_apply], fun k hk => ?_⟩
  by_cases first : k < m
  · exact busyFirst k first
  · obtain ⟨j, rfl⟩ := Nat.exists_eq_add_of_le' (Nat.le_of_not_lt first)
    rw [Function.iterate_add_apply]
    exact busyThen j (by omega)

/-! ## One phase -/

/-- The state `s` in the middle of an operation, the sequencer at `p`. -/
def State.running (p : SeqPos) (s : State) : State := s.start.setSeq p

theorem accept_eq_running (w : BitVec 68) (s : State) :
    s.accept w = (s.latchRequest w).running (firstPos (s.latchRequest w)) := rfl

theorem tick_idle (s : State) : tick (s.running .idle) = s.complete (latchedResponse s) := rfl

theorem tick_rstLow (s : State) :
    tick (s.running .rstLow) = (s.emit [.set .reset false, .wait .reset]).running .rstHigh := rfl

theorem tick_rstHigh (s : State) :
    tick (s.running .rstHigh) =
      (((s.emit [.set .reset true, .wait .reset]).setMirror mirrorDefault).setResetState .ready).complete 0 := rfl

theorem tick_loadLow {s : State} {k : Nat} {m : Mirror} {b : Byte} (h : frameByte s k = some (m, b)) (i : Nat) :
    tick (s.running (.frame k i .loadLow)) =
      (((s.setMirror m).emit [.set .load false]).setTransfer b 0).running (.frame k 0 .data) := by
  unfold tick
  simp only [State.running, State.setSeq_seq]
  split
  · next m' b' sent =>
    cases h.symm.trans sent
    rfl
  · next nothing =>
    cases h.symm.trans nothing

theorem tick_data (s : State) (k i : Nat) :
    tick (s.running (.frame k i .data)) =
      (s.emit [.set .data (s.latches.sr.getLsbD 0), .wait .phase]).running (.frame k i .clkHigh) := rfl

theorem tick_clkHigh (s : State) (k i : Nat) :
    tick (s.running (.frame k i .clkHigh)) =
      (s.emit [.set .clock true, .wait .phase]).running (.frame k i .clkLow) := rfl

theorem tick_clkLow_of_lt (s : State) (k : Nat) {i : Nat} (hi : i < 7) :
    tick (s.running (.frame k i .clkLow)) =
      ((s.emit [.set .clock false, .wait .phase]).setTransfer (s.latches.sr >>> 1) (s.latches.bitcnt + 1)).running
        (.frame k (i + 1) .data) :=
  if_pos hi

theorem tick_clkLow_seven (s : State) (k : Nat) :
    tick (s.running (.frame k 7 .clkLow)) =
      ((s.emit [.set .clock false, .wait .phase]).setTransfer (s.latches.sr >>> 1) s.latches.bitcnt).running
        (.frame k 7 .loadHigh) := rfl

theorem tick_loadHigh (s : State) (k i : Nat) :
    tick (s.running (.frame k i .loadHigh)) = (s.emit [.set .load true]).running (.frame k i .settle) := rfl

theorem tick_settle_of_some {s : State} {k : Nat} (h : (frameByte s (k + 1)).isSome) (i : Nat) :
    tick (s.running (.frame k i .settle)) = (s.emit [.wait .settle]).running (.frame (k + 1) 0 .loadLow) :=
  if_pos h

theorem tick_settle_of_none {s : State} {k : Nat} (h : frameByte s (k + 1) = none) (i : Nat) :
    tick (s.running (.frame k i .settle)) = (s.emit [.wait .settle]).complete (latchedResponse s) :=
  if_neg (show ¬ (frameByte s (k + 1)).isSome by rw [h]; decide)

/-! ## One frame -/

/-- The block after `i` bit slots of byte `b`: the bits sent have left the shift register. -/
def afterSlots (b : Byte) (i : Nat) (s : State) : State :=
  (s.emit (((List.range i).map b.getLsbD).flatMap slotEvents)).setTransfer (b >>> i) (BitVec.ofNat 3 i)

@[simp] theorem afterSlots_sr (b : Byte) (i : Nat) (s : State) : (afterSlots b i s).latches.sr = b >>> i := rfl
@[simp] theorem afterSlots_bitcnt (b : Byte) (i : Nat) (s : State) :
    (afterSlots b i s).latches.bitcnt = BitVec.ofNat 3 i := rfl

/-- The slot that follows takes its bit from the bottom of the shift register. -/
theorem emit_slot_afterSlots (b : Byte) (i : Nat) (s : State) (sr : Byte) (cnt : BitVec 3) :
    ((afterSlots b i s).emit (slotEvents ((b >>> i).getLsbD 0))).setTransfer sr cnt =
      (s.emit (((List.range (i + 1)).map b.getLsbD).flatMap slotEvents)).setTransfer sr cnt := by
  have more : (s.emit (((List.range i).map b.getLsbD).flatMap slotEvents)).emit (slotEvents ((b >>> i).getLsbD 0)) =
      s.emit (((List.range (i + 1)).map b.getLsbD).flatMap slotEvents) := by
    simp [emit_emit, List.range_succ]
  rw [← more]
  rfl

/-- The first two phases of a slot. -/
theorem run_slot_to_clkLow (s : State) (k i : Nat) :
    BusyRun 2 (s.running (.frame k i .data))
      ((s.emit [.set .data (s.latches.sr.getLsbD 0), .wait .phase, .set .clock true, .wait .phase]).running
        (.frame k i .clkLow)) := by
  refine (BusyRun.tick rfl (tick_data s k i)).trans (BusyRun.tick rfl ?_)
  rw [tick_clkHigh, emit_emit]
  rfl

theorem run_slot_of_lt (s : State) (k : Nat) {i : Nat} (hi : i < 7) :
    BusyRun 3 (s.running (.frame k i .data))
      (((s.emit (slotEvents (s.latches.sr.getLsbD 0))).setTransfer (s.latches.sr >>> 1) (s.latches.bitcnt + 1)).running
        (.frame k (i + 1) .data)) := by
  refine (run_slot_to_clkLow s k i).trans (BusyRun.tick rfl ?_)
  rw [tick_clkLow_of_lt _ k hi, emit_emit]
  rfl

theorem run_slot_seven (s : State) (k : Nat) :
    BusyRun 3 (s.running (.frame k 7 .data))
      (((s.emit (slotEvents (s.latches.sr.getLsbD 0))).setTransfer (s.latches.sr >>> 1) s.latches.bitcnt).running
        (.frame k 7 .loadHigh)) := by
  refine (run_slot_to_clkLow s k 7).trans (BusyRun.tick rfl ?_)
  rw [tick_clkLow_seven, emit_emit]
  rfl

/-- The first slots of a byte, up to the last but one. -/
theorem run_slots (b : Byte) (s : State) (k : Nat) {i : Nat} (hi : i ≤ 7) :
    BusyRun (3 * i) ((s.setTransfer b 0).running (.frame k 0 .data)) ((afterSlots b i s).running (.frame k i .data)) := by
  induction i with
  | zero =>
    have noSlot : afterSlots b 0 s = s.setTransfer b 0 := by simp [afterSlots, State.emit]
    rw [noSlot]
    exact BusyRun.refl _
  | succ i ih =>
    have slot := run_slot_of_lt (afterSlots b i s) k hi
    rw [afterSlots_sr, afterSlots_bitcnt, emit_slot_afterSlots, ← BitVec.shiftRight_add] at slot
    have counted : BitVec.ofNat 3 i + 1 = BitVec.ofNat 3 (i + 1) := (BitVec.ofNat_add i 1).symm
    rw [counted] at slot
    exact (ih (by omega)).trans slot

/-- The eight slots of a byte: the shift register is empty after them. -/
theorem run_eight_slots (b : Byte) (s : State) (k : Nat) :
    BusyRun 24 ((s.setTransfer b 0).running (.frame k 0 .data))
      (((s.emit ((wireBits b).flatMap slotEvents)).setTransfer 0 7).running (.frame k 7 .loadHigh)) := by
  have slot := run_slot_seven (afterSlots b 7 s) k
  have empty : ∀ b : Byte, b >>> 7 >>> 1 = 0 := by decide
  have bits : (List.range (7 + 1)).map b.getLsbD = wireBits b := rfl
  rw [afterSlots_sr, afterSlots_bitcnt, emit_slot_afterSlots, empty, bits] at slot
  exact (run_slots b s k (Nat.le_refl 7)).trans slot

/-- A frame from LOAD_LOW to SETTLE, which has its wait still to come. -/
theorem run_frame_to_settle {s : State} {k : Nat} {m : Mirror} {b : Byte} (h : frameByte s k = some (m, b)) :
    ∃ u, BusyRun 26 (s.running (.frame k 0 .loadLow)) (u.running (.frame k 7 .settle)) ∧
      u.emit [.wait .settle] = sendByte b (s.setMirror m) ∧ frameByte u (k + 1) = frameByte (s.setMirror m) (k + 1) ∧
      latchedResponse u = latchedResponse (s.setMirror m) := by
  refine ⟨_, (BusyRun.tick rfl (tick_loadLow h 0)).trans
    ((run_eight_slots b _ k).trans (BusyRun.tick rfl (tick_loadHigh _ k 7)) (l := 25)), ?_, rfl, rfl⟩
  calc _ = (((((s.setMirror m).emit [.set .load false]).emit ((wireBits b).flatMap slotEvents)).emit
        [.set .load true]).emit [.wait .settle]).setTransfer 0 7 := rfl
    _ = sendByte b (s.setMirror m) := by rw [emit_emit, emit_emit, emit_emit]; rfl

/-- A frame followed by another of the same operation. -/
theorem run_frame {s : State} {k : Nat} {m : Mirror} {b : Byte} (h : frameByte s k = some (m, b))
    (hnext : (frameByte (s.setMirror m) (k + 1)).isSome) :
    BusyRun 27 (s.running (.frame k 0 .loadLow)) ((sendByte b (s.setMirror m)).running (.frame (k + 1) 0 .loadLow)) := by
  obtain ⟨u, toSettle, sent, more, -⟩ := run_frame_to_settle h
  rw [← more] at hnext
  refine toSettle.trans (BusyRun.tick rfl ?_)
  rw [tick_settle_of_some hnext, sent]

/-- The last frame of an operation. -/
theorem run_last_frame {s : State} {k : Nat} {m : Mirror} {b : Byte} (h : frameByte s k = some (m, b))
    (hlast : frameByte (s.setMirror m) (k + 1) = none) :
    BusyRun 27 (s.running (.frame k 0 .loadLow))
      ((sendByte b (s.setMirror m)).complete (latchedResponse (s.setMirror m))) := by
  obtain ⟨u, toSettle, sent, more, response⟩ := run_frame_to_settle h
  rw [← more] at hlast
  refine toSettle.trans (BusyRun.tick rfl ?_)
  rw [tick_settle_of_none hlast, sent, response]

/-- An operation whose frames are sent with the mirror as it is. -/
theorem run_frames {s : State} {k : Nat} (b : Byte) (bs : List Byte)
    (h : ∀ i, frameByte s (k + i) = ((b :: bs)[i]?).map fun v => (s.mirror, v)) :
    BusyRun ((b :: bs).length * 27) (s.running (.frame k 0 .loadLow))
      ((sendBytes (b :: bs) s).complete (latchedResponse s)) := by
  induction bs generalizing b k s with
  | nil => exact run_last_frame (h 0) (h 1)
  | cons c cs ih =>
    have another : (frameByte s (k + 1)).isSome := by rw [h 1]; rfl
    have rest := ih (s := sendByte b s) (k := k + 1) c fun i => by rw [Nat.add_right_comm]; exact h (i + 1)
    refine (run_frame (h 0) another).trans rest ?_
    simp only [List.length_cons]
    omega

/-! ## One operation -/

theorem firstPos_of_some {s : State} {f : Mirror × Byte} (hop : s.latches.opc ≠ 0) (h : frameByte s 0 = some f) :
    firstPos s = .frame 0 0 .loadLow := by
  rw [firstPos, if_neg hop, h]
  rfl

theorem firstPos_of_none {s : State} (hop : s.latches.opc ≠ 0) (h : frameByte s 0 = none) : firstPos s = .idle := by
  rw [firstPos, if_neg hop, h]
  rfl

/-- An operation of no frame completes in the cycle after acceptance (R180). -/
theorem run_no_frame {s : State} (hop : s.latches.opc ≠ 0) (h : frameByte s 0 = none) :
    BusyRun 1 (s.running (firstPos s)) (s.complete (latchedResponse s)) := by
  rw [firstPos_of_none hop h]
  exact BusyRun.tick rfl (tick_idle s)

/-- Only the two getters answer anything but 0 (R30). -/
theorem latchedResponse_of_ne {s : State} (h3 : s.latches.opc ≠ 0x3#4) (h5 : s.latches.opc ≠ 0x5#4) :
    latchedResponse s = 0 := by
  unfold latchedResponse
  split
  · next h => exact absurd (BitVec.eq_of_toNat_eq h) h3
  · next h => exact absurd (BitVec.eq_of_toNat_eq h) h5
  · rfl

theorem run_reset {s : State} (hop : s.latches.opc = 0x0#4) : BusyRun 2 (s.running (firstPos s)) (reached s .reset) := by
  have first : firstPos s = .rstLow := if_pos hop
  rw [first]
  refine (BusyRun.tick rfl (tick_rstLow s)).trans (BusyRun.tick rfl ?_)
  rw [tick_rstHigh, emit_emit]
  rfl

theorem run_clear {s : State} (hop : s.latches.opc = 0x1#4) : BusyRun 54 (s.running (firstPos s)) (reached s .clear) := by
  have asserted (u : State) (hu : u.latches.opc = 0x1#4) :
      frameByte u 0 = some (mirrorSetClear true u.mirror, encCtrl (mirrorSetClear true u.mirror)) := by
    simp [frameByte, hu]
  have released (u : State) (hu : u.latches.opc = 0x1#4) :
      frameByte u 1 = some (mirrorSetClear false u.mirror, encCtrl (mirrorSetClear false u.mirror)) := by
    simp [frameByte, hu]
  have noThird (u : State) (hu : u.latches.opc = 0x1#4) : frameByte u 2 = none := by simp [frameByte, hu]
  rw [firstPos_of_some (by simp [hop]) (asserted s hop)]
  have first := run_frame (k := 0) (asserted s hop) (Option.isSome_of_eq_some (released _ hop))
  have second := run_last_frame (k := 1)
    (released (sendByte (encCtrl (mirrorSetClear true s.mirror)) (s.setMirror (mirrorSetClear true s.mirror))) hop)
    (noThird _ hop)
  rw [latchedResponse_of_ne (by simp [hop, sendByte]) (by simp [hop, sendByte])] at second
  exact first.trans second

/-- A setter is one frame, of the mirror with one field replaced. -/
theorem run_updateCtrl {s : State} {f : Mirror → Mirror} (hop : s.latches.opc = 0x2#4 ∨ s.latches.opc = 0x4#4)
    (h : frameByte s 0 = some (f s.mirror, encCtrl (f s.mirror))) :
    BusyRun 27 (s.running (firstPos s)) ((updateCtrl f s.start).complete 0) := by
  have nonzero : s.latches.opc ≠ 0 := by rcases hop with hop | hop <;> simp [hop]
  have last : frameByte (s.setMirror (f s.mirror)) 1 = none := by rcases hop with hop | hop <;> simp [frameByte, hop]
  have response : latchedResponse (s.setMirror (f s.mirror)) = 0 := by
    rcases hop with hop | hop <;> simp [latchedResponse, hop]
  have run := run_last_frame h last
  rw [response] at run
  rw [firstPos_of_some nonzero h]
  exact run

theorem run_setBrightness {s : State} (hop : s.latches.opc = 0x2#4) :
    BusyRun 27 (s.running (firstPos s)) (reached s (.setBrightness s.latches.argA)) :=
  run_updateCtrl (.inl hop) (by simp [frameByte, hop])

theorem run_setPeakCurrent {s : State} (hop : s.latches.opc = 0x4#4) :
    BusyRun 27 (s.running (firstPos s)) (reached s (.setPeakCurrent s.latches.argA)) :=
  run_updateCtrl (.inr hop) (by simp [frameByte, hop])

theorem run_getBrightness {s : State} (hop : s.latches.opc = 0x3#4) :
    BusyRun 1 (s.running (firstPos s)) (reached s .getBrightness) := by
  have run := run_no_frame (s := s) (by simp [hop]) (by simp [frameByte, hop])
  have response : latchedResponse s = apiBrightness s.mirror.br := by simp [latchedResponse, hop]
  rwa [response] at run

theorem run_getPeakCurrent {s : State} (hop : s.latches.opc = 0x5#4) :
    BusyRun 1 (s.running (firstPos s)) (reached s .getPeakCurrent) := by
  have run := run_no_frame (s := s) (by simp [hop]) (by simp [frameByte, hop])
  have response : latchedResponse s = peakResponse s.mirror.pcl := by simp [latchedResponse, hop]
  rwa [response] at run

/-- Accepted, the select and the seven rows are eight frames; dropped, there is none (R95). -/
theorem run_writeGlyph {s : State} (hop : s.latches.opc = 0x6#4) :
    BusyRun (ticksOf (.writeGlyph s.latches.argA s.latches.argG)) (s.running (firstPos s))
      (reached s (.writeGlyph s.latches.argA s.latches.argG)) := by
  have response : latchedResponse s = 0 := latchedResponse_of_ne (by simp [hop]) (by simp [hop])
  rw [ticksOf]
  by_cases hd : digitInRange s.latches.argA
  · have frames (i : Nat) : frameByte s (0 + i) =
        ((glyphBytes s.latches.argA s.latches.argG)[i]?).map fun v => (s.mirror, v) := by
      cases i with
      | zero => simp [frameByte, hop, hd, glyphBytes]
      | succ i => simp [frameByte, hop, hd, glyphBytes, glyphRow, Function.comp_def]
    have run := run_frames _ _ frames
    rw [if_pos hd, firstPos_of_some (by simp [hop]) (frames 0)]
    rw [response] at run
    rw [reached, glyphBody, if_pos hd]
    exact run
  · have run := run_no_frame (s := s) (by simp [hop]) (by simp [frameByte, hop, hd])
    rw [response] at run
    rw [if_neg hd, reached, glyphBody, if_neg hd]
    exact run

/-- A reserved request has no frame and the response 0 (R67). -/
theorem run_reserved {s : State} (hop : 0x7#4 ≤ s.latches.opc) :
    BusyRun 1 (s.running (firstPos s)) (s.complete 0) := by
  have codes : ∀ op : BitVec 4, 0x7#4 ≤ op → op ≠ 0 ∧ op ≠ 0x3#4 ∧ op ≠ 0x5#4 := by decide
  obtain ⟨ne0, ne3, ne5⟩ := codes _ hop
  have noFrame : frameByte s 0 = none := by
    have code : 7 ≤ s.latches.opc.toNat := hop
    unfold frameByte
    split <;> first | omega | rfl
  have run := run_no_frame ne0 noFrame
  rwa [latchedResponse_of_ne ne3 ne5] at run

/-- The atomic operation of a request word is what its phases add up to. -/
theorem run_request {w : BitVec 68} {s : State} (hop : s.latches.opc = reqOp w) (hA : s.latches.argA = reqA w)
    (hG : s.latches.argG = reqG w) :
    BusyRun (ticksOf (decode (.req w))) (s.running (firstPos s)) (reached s (decode (.req w))) := by
  rcases reqOp_cases w with h | h | h | h | h | h | h | h | h
  · rw [decode_req_of_reqOp_zero h]
    exact run_reset (hop.trans h)
  · rw [decode_req_of_reqOp_one h]
    exact run_clear (hop.trans h)
  · rw [decode_req_of_reqOp_two h, ← hA]
    exact run_setBrightness (hop.trans h)
  · rw [decode_req_of_reqOp_three h]
    exact run_getBrightness (hop.trans h)
  · rw [decode_req_of_reqOp_four h, ← hA]
    exact run_setPeakCurrent (hop.trans h)
  · rw [decode_req_of_reqOp_five h]
    exact run_getPeakCurrent (hop.trans h)
  · rw [decode_req_of_reqOp_six h, ← hA, ← hG]
    exact run_writeGlyph (hop.trans h)
  · rw [decode_req_of_reqOp_seven h]
    exact run_reserved (by rw [hop, h]; decide)
  · rw [decode_req_of_eight_le_reqOp h]
    exact run_reserved (by rw [hop]; exact BitVec.le_trans (by decide) h)

/-- Settles O52: the state that `exec` gives is the one the operation reaches, and the phases lead there. -/
theorem sequencerCarriesOutRequest : Obligations.SequencerCarriesOutRequest := by
  intro w s t _ h
  obtain ⟨-, -, rfl⟩ := exec_next h
  rw [accept_eq_running]
  exact run_request rfl rfl rfl

end Sys2Proof.Machine
end

section
/-! What an operation answers, said once for all of them (`exec_cases`), and what the statements about single operations add
to it: the byte of each direct call, the responses, the bytes and the time of an accepted glyph write. -/

namespace Sys2Proof.Machine

/-! ## Outcomes (R150, R151) -/

theorem exec_busy {s : State} (hs : s.busy = true) (i : Instr) : exec i s = .refused .concurrentInvocation := by
  cases i <;> exact unlessBusy_busy hs _

theorem exec_digitSelect_of_lt {d : Byte} {s : State} (hs : s.busy = false) (hd : 7 < d) :
    exec (.digitSelect d) s = .refused (.digitSelectOutOfRange d) :=
  (unlessBusy_idle hs _).trans (if_neg ((digitInRange_iff_le d).not.mpr (BitVec.not_le.mpr hd)))

/-- An operation that does not read the mirror completes in either reset state, if it is well formed. -/
theorem exec_wellFormed {i : Instr} {s : State} (hi : readsMirror i = none) (hw : i.wellFormed = true)
    (hs : s.busy = false) : exec i s = .next (reached s i) := by
  cases i with
  | digitSelect d => exact exec_digitSelect hs hw
  | ctrlWrite | clear | setBrightness | getBrightness | setPeakCurrent | getPeakCurrent => cases hi
  | _ => exact unlessBusy_idle hs _

/-- R91 is the only precondition on an operand. -/
theorem wellFormed_or_digitSelect (i : Instr) : i.wellFormed = true ∨ ∃ d, i = .digitSelect d ∧ 7 < d := by
  cases i with
  | digitSelect d =>
    by_cases hd : d ≤ 7
    · exact .inl ((digitInRange_iff_le d).mpr hd)
    · exact .inr ⟨d, rfl, BitVec.not_le.mp hd⟩
  | _ => exact .inl rfl

theorem wellFormed_of_readsMirror {i : Instr} {op : MirrorOp} (hi : readsMirror i = some op) : i.wellFormed = true := by
  rcases wellFormed_or_digitSelect i with hw | ⟨d, rfl, -⟩
  · exact hw
  · cases hi

/-- All an operation can answer: the two refusals of R151, the fault of R150, or the state it reaches. -/
theorem exec_cases (i : Instr) (s : State) :
    (s.busy = true ∧ exec i s = .refused .concurrentInvocation) ∨
    (s.busy = false ∧ s.resetState = .unreset ∧
      ∃ op, readsMirror i = some op ∧ exec i s = .fault (.preconditionViolated op)) ∨
    (s.busy = false ∧ ∃ d, i = .digitSelect d ∧ 7 < d ∧ exec i s = .refused (.digitSelectOutOfRange d)) ∨
    (s.busy = false ∧ i.wellFormed = true ∧ (s.resetState = .ready ∨ readsMirror i = none) ∧
      exec i s = .next (reached s i)) := by
  cases hs : s.busy with
  | true => exact .inl ⟨rfl, exec_busy hs i⟩
  | false =>
    refine .inr ?_
    cases hi : readsMirror i with
    | some op =>
      cases hr : s.resetState with
      | unreset => exact .inl ⟨rfl, rfl, op, rfl, exec_unreset hi hs hr⟩
      | ready => exact .inr (.inr ⟨rfl, wellFormed_of_readsMirror hi, .inl rfl, exec_ready hi hs hr⟩)
    | none =>
      rcases wellFormed_or_digitSelect i with hw | ⟨d, rfl, hd⟩
      · exact .inr (.inr ⟨rfl, hw, .inr rfl, exec_wellFormed hi hw hs⟩)
      · exact .inr (.inl ⟨rfl, d, rfl, hd, exec_digitSelect_of_lt hs hd⟩)

/-- Settles O32. -/
theorem noConcurrentInvocation : Obligations.NoConcurrentInvocation := fun i _ hs => exec_busy hs i

/-- Settles O15. -/
theorem digitSelectRefusesLargeDigit : Obligations.DigitSelectRefusesLargeDigit := fun _ _ => exec_digitSelect_of_lt

/-- Settles O31: of the answers of `exec_cases` one is a fault, and its conditions exclude the others. -/
theorem preconditionFault : Obligations.PreconditionFault := by
  intro i s f
  constructor
  · intro h
    rcases exec_cases i s with ⟨-, he⟩ | ⟨hs, hr, op, hi, he⟩ | ⟨-, d, -, -, he⟩ | ⟨-, -, -, he⟩
    · rw [he] at h; cases h
    · rw [he] at h; cases h
      exact ⟨hs, hr, op, hi, rfl⟩
    · rw [he] at h; cases h
    · rw [he] at h; cases h
  · rintro ⟨hs, hr, op, hi, rfl⟩
    exact exec_unreset hi hs hr

/-- Settles O33: of the answers of `exec_cases` one is a next state, and its conditions exclude the others. -/
theorem completesExactlyWhen : Obligations.CompletesExactlyWhen := by
  intro i s hs
  constructor
  · rintro ⟨t, h⟩
    rcases exec_cases i s with ⟨-, he⟩ | ⟨-, -, op, -, he⟩ | ⟨-, d, -, -, he⟩ | ⟨-, hw, hr, -⟩
    · rw [he] at h; cases h
    · rw [he] at h; cases h
    · rw [he] at h; cases h
    · exact ⟨hw, hr⟩
  · rintro ⟨hw, hr | hi⟩
    · cases hi : readsMirror i with
      | some op => exact ⟨_, exec_ready hi hs hr⟩
      | none => exact ⟨_, exec_wellFormed hi hw hs⟩
    · exact ⟨_, exec_wellFormed hi hw hs⟩

/-! ## Direct calls (R4) -/

theorem reached_of_internal (s : State) {i : Instr} (hv : i.hostVisible = false) :
    (reached s i).mirror = s.mirror ∧ (reached s i).rspData = s.rspData := by
  cases i <;> cases hv <;> exact ⟨rfl, rfl⟩

/-- A direct call that completes has sent its one byte, and the lines are at that byte's idle levels (R26). -/
theorem completesDirect_of_one_byte {i : Instr} {s : State} {b : Byte} (hb : bytesOf s i = [b])
    (hv : i.hostVisible = false) (hs : s.busy = false) (he : exec i s = .next (reached s i)) :
    CompletesDirect i s (frameEvents b) (linesAfterByte s.lines b) := by
  have notReset : i ≠ .reset := by
    rintro rfl
    cases hv
  obtain ⟨mirror, rspData⟩ := reached_of_internal s hv
  have trace := reached_trace s notReset
  have lines := reached_lines s notReset
  rw [hb, List.flatMap_singleton] at trace lines
  exact ⟨reached s i, ⟨he, trace, lines, mirror, reached_resetState s notReset, reached_idle s hs i⟩,
    (reached_rspValid s i).trans hv, rspData⟩

/-- Settles O2. -/
theorem writeByteSendsOneFrame : Obligations.WriteByteSendsOneFrame := fun _ _ hs =>
  completesDirect_of_one_byte rfl rfl hs (exec_wellFormed rfl rfl hs)

/-- Settles O13: the byte is the command of the mirror, whose format and bit 5 are those of `enc_ctrl`. -/
theorem ctrlWriteSendsMirror : Obligations.CtrlWriteSendsMirror := by
  refine ⟨fun s hs hr => completesDirect_of_one_byte rfl rfl hs (exec_ready rfl hs hr), fun s => exec_unreset rfl,
    fun m => ⟨encCtrl_format m, fun hclear => ?_⟩⟩
  obtain ⟨-, -, clear, -⟩ := encCtrl_layout m
  rw [clear, hclear]
  rfl

/-- Settles O14: for a digit that exists the digit-select byte is a sum. -/
theorem digitSelectSendsDigit : Obligations.DigitSelectSendsDigit := by
  intro d s hs hd
  have sum : ∀ d : Byte, d ≤ 7 → encDsel d = 0xA0#8 + d := by decide
  exact completesDirect_of_one_byte (congrArg (· :: []) (sum d hd)) rfl hs
    (exec_digitSelect hs ((digitInRange_iff_le d).mpr hd))

/-- Settles O16: the row command is the masked row. -/
theorem rowDataSendsLowFiveBits : Obligations.RowDataSendsLowFiveBits := fun _ _ hs =>
  completesDirect_of_one_byte rfl rfl hs (exec_wellFormed rfl rfl hs)

/-! ## Frames (R79, R97) -/

/-- Settles O1: the events of the one frame that `WRITE_BYTE` appends, place by place. -/
theorem frameShape : Obligations.FrameShape := by
  intro b s hs
  refine ⟨reached s (.writeByte b), frameEvents b, exec_wellFormed rfl rfl hs, rfl, rfl, rfl, fun i hi => ?slot, rfl, rfl,
    rfl, rfl, clockPulses_frameEvents b⟩
  case slot => interval_cases i <;> exact ⟨rfl, rfl, rfl, rfl, rfl, rfl⟩

/-- Settles O3. -/
theorem frameCarriesItsByte : Obligations.FrameCarriesItsByte := Rx.run_frameEvents

/-- What is counted along the events, and is the same for every piece, is that many times the number of pieces. -/
theorem count_flatMap {α : Type} {piece : α → List Event} {count : List Event → Nat} {n : Nat} (nil : count [] = 0)
    (append : ∀ es fs, count (es ++ fs) = count es + count fs) (each : ∀ a, count (piece a) = n) (as : List α) :
    count (as.flatMap piece) = as.length * n := by
  induction as with
  | nil => rw [List.flatMap_nil, nil, List.length_nil, Nat.zero_mul]
  | cons a as ih => rw [List.flatMap_cons, append, each, ih, List.length_cons, Nat.succ_mul, Nat.add_comm]

/-- R179: three phase waits in each of the eight slots, and one settle wait. -/
theorem minTime_frameEvents (len : TimeParam → Nat) (b : Byte) :
    minTime len (frameEvents b) = 24 * len .phase + len .settle := by
  have slots : minTime len ((wireBits b).flatMap slotEvents) = 8 * (3 * len .phase) :=
    count_flatMap rfl (minTime_append len) (fun _ => by simp only [slotEvents, minTime]; omega) _
  rw [frameEvents, minTime_append, minTime, slots, minTime, minTime, minTime]
  omega

theorem minTime_frames (len : TimeParam → Nat) (bs : List Byte) :
    minTime len (bs.flatMap frameEvents) = bs.length * (24 * len .phase + len .settle) :=
  count_flatMap rfl (minTime_append len) (minTime_frameEvents len) bs

theorem length_frames (bs : List Byte) : (bs.flatMap frameEvents).length = bs.length * 51 :=
  count_flatMap (piece := frameEvents) rfl (fun _ _ => List.length_append) (fun _ => rfl) bs

/-- One low interval of LOAD in each frame. -/
theorem loads_frames (bs : List Byte) :
    (bs.flatMap frameEvents).countP (fun e => decide (e = .set .load false)) = bs.length :=
  (count_flatMap (piece := frameEvents) (n := 1) rfl (fun _ _ => List.countP_append) (fun _ => rfl) bs).trans
    (Nat.mul_one _)

/-- Settles O19: eight frames, of the bytes of the glyph write. -/
theorem writeGlyphTraceShape : Obligations.WriteGlyphTraceShape := by
  intro d g s t len hd h
  obtain ⟨-, -, rfl⟩ := exec_next h
  have bytes := bytesOf_writeGlyph_of_le s g hd
  refine ⟨_, reached_trace s nofun, ?length, ?pulses, ?loads, ?frames, ?time⟩
  case length => rw [bytes, length_frames]; simp
  case pulses => rw [bytes]; exact clockPulses_frames _
  case loads => rw [bytes]; exact loads_frames _
  case frames => rw [bytes]; rfl
  case time => rw [bytes]; exact minTime_frames len _

/-! ## Responses -/

/-- R112: the inversion of R62 undone by that of R111. -/
theorem apiBrightness_wireBrightness (b : Byte) : apiBrightness (wireBrightness b) = b &&& 7#8 := by
  have mask : (b &&& 7#8).toNat = b.toNat % 8 := Nat.and_two_pow_sub_one_eq_mod b.toNat 3
  apply BitVec.eq_of_toNat_eq
  rw [toNat_apiBrightness, toNat_wireBrightness, mask]
  omega

theorem peakResponse_peakBit : ∀ p : Byte, peakResponse (peakBit p) = p &&& 1#8 := by decide

/-- Settles O27. -/
theorem brightnessRoundTrip : Obligations.BrightnessRoundTrip := by
  intro b s hs hr
  have inRange : ∀ b : Byte, b ≤ 7 → b &&& 7#8 = b := by decide
  have response := apiBrightness_wireBrightness b
  exact ⟨_, _, exec_ready rfl hs hr, exec_ready rfl rfl hr, response, fun hb => response.trans (inRange b hb)⟩

/-- Settles O28. -/
theorem peakCurrentRoundTrip : Obligations.PeakCurrentRoundTrip := fun p _ hs hr =>
  ⟨_, _, exec_ready rfl hs hr, exec_ready rfl rfl hr, peakResponse_peakBit p⟩

/-- Settles O29: the getters read the mirror that `RESET` has written, in a block it has made READY. -/
theorem resetForgetsSettings : Obligations.ResetForgetsSettings := fun _ hs =>
  ⟨_, _, _, exec_wellFormed rfl rfl hs, exec_ready rfl rfl rfl, exec_ready rfl rfl rfl, rfl, rfl⟩

/-- A reserved request has no byte to send (R67). -/
theorem completes_reserved {i : Instr} (hi : i = .reservedReq7 ∨ ∃ lo, i = .reservedReq8F lo) {s : State}
    (hs : s.busy = false) : Completes i s [] s.lines s.mirror s.resetState 0 := by
  rcases hi with rfl | ⟨lo, rfl⟩ <;>
    exact ⟨_, ⟨exec_wellFormed rfl rfl hs, (List.append_nil _).symm, rfl, rfl, rfl, reached_idle s hs _⟩, rfl, rfl⟩

/-- Settles O26. -/
theorem reservedRequestsAreNoOperations : Obligations.ReservedRequestsAreNoOperations := by
  intro s hs
  refine ⟨completes_reserved (.inl rfl) hs, fun lo => completes_reserved (.inr ⟨lo, rfl⟩) hs, fun w hw => ?_⟩
  have codes : ∀ op : BitVec 4, 0x7#4 ≤ op → op = 0x7#4 ∨ 0x8#4 ≤ op := by decide
  rcases codes _ hw with h | h
  · exact completes_reserved (.inl (decode_req_of_reqOp_seven h)) hs
  · exact completes_reserved (.inr ⟨_, decode_req_of_eight_le_reqOp h⟩) hs

end Sys2Proof.Machine
end

section
/-! What every operation sends and leaves (R18, R25, R44, R100, R165, R179): the lines and the trace follow the list of its
bytes, the mirror follows `mirrorAfter`. -/

namespace Sys2Proof.Machine

/-! ## Bytes, time and lines -/

/-- R100: each byte of a host-visible operation is what one of the three encoding functions writes. -/
theorem decodeByte_bytesOf_ne (s : State) {i : Instr} (hv : i.hostVisible = true) {b : Byte} (hb : b ∈ bytesOf s i) :
    decodeByte b ≠ .notEmitted := by
  have written : (∃ m, b = encCtrl m) ∨ (∃ d, b = encDsel d) ∨ ∃ v, b = encRow v := by
    cases i with
    | writeByte | ctrlWrite | digitSelect | rowData => cases hv
    | clear =>
      rcases List.mem_pair.mp hb with rfl | rfl
      · exact .inl ⟨_, rfl⟩
      · exact .inl ⟨_, rfl⟩
    | setBrightness | setPeakCurrent => exact .inl ⟨_, List.mem_singleton.mp hb⟩
    | reset | getBrightness | getPeakCurrent | reservedReq7 | reservedReq8F => cases hb
    | writeGlyph d g =>
      rw [bytesOf] at hb
      split at hb
      · rcases List.mem_cons.mp hb with rfl | hb
        · exact .inr (.inl ⟨d, rfl⟩)
        · obtain ⟨v, -, rfl⟩ := List.mem_map.mp hb
          exact .inr (.inr ⟨v, rfl⟩)
      · cases hb
  rcases written with ⟨m, rfl⟩ | ⟨d, rfl⟩ | ⟨v, rfl⟩
  · rw [decodeByte_encCtrl]; nofun
  · rw [decodeByte_encDsel]; nofun
  · rw [decodeByte_encRow]; nofun

/-- Settles O35: the bytes a completed operation adds to the trace are `bytesOf`, and each was encoded. -/
theorem encoderClosure : Obligations.EncoderClosure := by
  have sent {i : Instr} {s t : State} (h : exec i s = .next t) : traceBytes t.trace = traceBytes s.trace ++ bytesOf s i :=
    (operationSendsItsBytes i s t h).1
  have dselRange : ∀ d : Byte, 0xA0#8 ≤ encDsel d ∧ encDsel d ≤ 0xA7#8 := by decide
  have rowRange : ∀ v : Byte, encRow v ≤ 0x1F#8 := by decide
  exact ⟨fun i s t hv h => ⟨_, sent h, fun b => decodeByte_bytesOf_ne s hv⟩,
    fun s t h => ⟨_, sent h, encCtrl_format s.mirror⟩, fun d s t h => ⟨_, sent h, dselRange d⟩,
    fun v s t h => ⟨_, sent h, rowRange v⟩⟩

/-- Settles O36: two reset waits, or the time of the frames. -/
theorem leastTimes : Obligations.LeastTimes := by
  intro i s t len h
  obtain ⟨-, -, rfl⟩ := exec_next h
  by_cases hi : i = .reset
  · subst hi
    refine ⟨resetEvents, reached_reset_trace s, ?_⟩
    simp only [resetEvents, minTime, if_true]
    omega
  · exact ⟨_, reached_trace s hi, by rw [if_neg hi, minTime_frames, length_bytesOf]⟩

/-- Every operation but `RESET` leaves the lines as they were if it sends no byte, and otherwise at the idle levels of its
last byte. -/
theorem reached_lines_cases (s : State) {i : Instr} (hi : i ≠ .reset) :
    (bytesOf s i = [] ∧ (reached s i).lines = s.lines) ∨
    ∃ bs b, bytesOf s i = bs ++ [b] ∧ (reached s i).lines = linesAfterByte s.lines b := by
  rw [reached_lines s hi]
  rcases List.eq_nil_or_concat' (bytesOf s i) with empty | ⟨bs, b, bytes⟩
  · exact .inl ⟨empty, by rw [empty]; rfl⟩
  · refine .inr ⟨bs, b, bytes, ?_⟩
    rw [bytes, levelsAfter_frames_concat]

/-- Settles O37: a byte's idle levels have the RESET line as it was, and `RESET` changes no other line. -/
theorem lineWriters : Obligations.LineWriters := by
  intro i s t h
  obtain ⟨-, -, rfl⟩ := exec_next h
  by_cases hi : i = .reset
  · subst hi
    exact ⟨fun h => absurd rfl h, fun _ => ⟨rfl, rfl, rfl⟩⟩
  · rcases reached_lines_cases s hi with ⟨-, lines⟩ | ⟨bs, b, bytes, lines⟩
    · rw [lines]
      exact ⟨fun _ => rfl, fun _ => ⟨rfl, rfl, rfl⟩⟩
    · rw [lines, ← length_bytesOf s i, bytes]
      exact ⟨fun _ => rfl, fun noByte => by simp at noByte⟩

/-! ## Who writes the mirror -/

/-- What an operation makes of the mirror (R18). -/
def mirrorAfter (m : Mirror) : Instr → Mirror
  | .reset => mirrorDefault
  | .clear => mirrorSetClear false m
  | .setBrightness b => mirrorSetBrightness b m
  | .setPeakCurrent p => mirrorSetPeak p m
  | .writeByte _ | .ctrlWrite | .digitSelect _ | .rowData _ | .getBrightness | .getPeakCurrent | .writeGlyph _ _
  | .reservedReq7 | .reservedReq8F _ => m

theorem reached_mirror (s : State) (i : Instr) : (reached s i).mirror = mirrorAfter s.mirror i := by
  cases i with
  | writeGlyph d g =>
    obtain ⟨-, -, mirror, -⟩ := sendBytes_spec (bytesOf s (.writeGlyph d g)) s.start
    rw [reached_writeGlyph]
    exact mirror
  | _ => rfl

/-- Settles O38: `mirrorAfter`, case by case. -/
theorem mirrorWriters : Obligations.MirrorWriters := by
  intro i s t h
  obtain ⟨-, -, rfl⟩ := exec_next h
  rw [reached_mirror]
  refine ⟨?reset, ?clear, ?brightness, ?peak, ?other⟩
  case reset => rintro rfl; rfl
  case clear => rintro rfl; rfl
  case brightness =>
    rintro b rfl
    exact ⟨rfl, toNat_wireBrightness b⟩
  case peak => rintro p rfl; rfl
  case other =>
    intro notReset notClear notBrightness notPeak
    cases i with
    | reset => exact absurd rfl notReset
    | clear => exact absurd rfl notClear
    | setBrightness b => exact absurd rfl (notBrightness b)
    | setPeakCurrent p => exact absurd rfl (notPeak p)
    | _ => rfl

/-- Settles O39: only the last action of `RESET` writes S. -/
theorem resetStateTransitions : Obligations.ResetStateTransitions := by
  refine ⟨rfl, fun s hs => ⟨_, exec_wellFormed rfl rfl hs, rfl⟩, fun i s t hi h => ?other, fun s hs => ?during⟩
  case other =>
    obtain ⟨-, -, rfl⟩ := exec_next h
    exact reached_resetState s hi
  case during => simp [tick, hs]

/-! ## The last control-register command -/

theorem Rx.run_frames_lastCtrl (r : Rx) (bs : List Byte) :
    (r.run (bs.flatMap frameEvents)).lastCtrl = bs.foldl nextCtrl r.lastCtrl := by
  induction bs generalizing r with
  | nil => rfl
  | cons b bs ih => rw [List.flatMap_cons, Rx.run_append, ih, Rx.run_frameEvents, List.foldl_cons]

theorem reached_lastCtrl (s : State) {i : Instr} (hi : i ≠ .reset) :
    traceLastCtrl (reached s i).trace = (bytesOf s i).foldl nextCtrl (traceLastCtrl s.trace) := by
  rw [reached_trace s hi, traceLastCtrl, Rx.run_append, Rx.run_frames_lastCtrl]
  rfl

/-- The reset pulse forgets the last command (R28). -/
theorem reached_reset_lastCtrl (s : State) : traceLastCtrl (reached s .reset).trace = none := by
  rw [reached_reset_trace, traceLastCtrl, Rx.run_append]
  rfl

theorem nextCtrl_of_ctrl (last : Option Byte) {b : Byte} (hb : b &&& 0xD0#8 = 0xC0#8) : nextCtrl last b = some b :=
  if_pos (decide_eq_true hb)

theorem nextCtrl_of_not_ctrl (last : Option Byte) {b : Byte} (hb : b &&& 0xD0#8 ≠ 0xC0#8) : nextCtrl last b = last :=
  if_neg (by rw [isCtrl, decide_eq_false hb]; decide)

theorem nextCtrl_encCtrl (last : Option Byte) (m : Mirror) : nextCtrl last (encCtrl m) = some (encCtrl m) :=
  nextCtrl_of_ctrl last (encCtrl_format m)

theorem lastCtrl_of_bytesOf_concat {s : State} {i : Instr} {bs : List Byte} {m : Mirror} (hi : i ≠ .reset)
    (bytes : bytesOf s i = bs ++ [encCtrl m]) : traceLastCtrl (reached s i).trace = some (encCtrl m) := by
  rw [reached_lastCtrl s hi, bytes, List.foldl_append]
  exact nextCtrl_encCtrl _ m

/-- The operations that send control commands send the command of the mirror last (R22, R49). -/
theorem reached_lastCtrl_eq_command (s : State) {i : Instr}
    (hi : i = .ctrlWrite ∨ i = .clear ∨ (∃ b, i = .setBrightness b) ∨ ∃ p, i = .setPeakCurrent p) :
    traceLastCtrl (reached s i).trace = some (encCtrl (reached s i).mirror) := by
  rcases hi with rfl | rfl | ⟨b, rfl⟩ | ⟨p, rfl⟩
  · exact lastCtrl_of_bytesOf_concat (bs := []) nofun rfl
  · exact lastCtrl_of_bytesOf_concat (bs := [encCtrl (mirrorSetClear true s.mirror)]) nofun rfl
  · exact lastCtrl_of_bytesOf_concat (bs := []) nofun rfl
  · exact lastCtrl_of_bytesOf_concat (bs := []) nofun rfl

/-- Settles O30: the two setters write different fields, and each sends the command of the whole mirror. -/
theorem reapplyOrderIrrelevant : Obligations.ReapplyOrderIrrelevant := fun b p _ hs hr =>
  ⟨_, _, _, _, exec_ready rfl hs hr, exec_ready rfl rfl hr, exec_ready rfl hs hr, exec_ready rfl rfl hr, rfl, rfl,
    reached_lastCtrl_eq_command _ (.inr (.inr (.inl ⟨b, rfl⟩))),
    reached_lastCtrl_eq_command _ (.inr (.inr (.inr ⟨p, rfl⟩)))⟩

end Sys2Proof.Machine
end

section
/-! Steps and invariants: what a step can do is said once (`step_next_cases`), and each invariant is then a fact about an
operation, a phase and power-on. -/

namespace Sys2Proof.Machine

/-! ## One step -/

/-- The block as it is when it has taken a code off the port: a request's operands are latched. -/
def State.taken (c : Code) (rest : List HostAction) (s : State) : State :=
  match c with
  | .req w => ({ s with host := rest } : State).latchRequest w
  | .wire _ => { s with host := rest }

@[simp] theorem State.taken_mirror (c : Code) (rest : List HostAction) (s : State) :
    (s.taken c rest).mirror = s.mirror := by cases c <;> rfl
@[simp] theorem State.taken_resetState (c : Code) (rest : List HostAction) (s : State) :
    (s.taken c rest).resetState = s.resetState := by cases c <;> rfl
@[simp] theorem State.taken_lines (c : Code) (rest : List HostAction) (s : State) :
    (s.taken c rest).lines = s.lines := by cases c <;> rfl
@[simp] theorem State.taken_trace (c : Code) (rest : List HostAction) (s : State) :
    (s.taken c rest).trace = s.trace := by cases c <;> rfl
@[simp] theorem State.taken_busy (c : Code) (rest : List HostAction) (s : State) :
    (s.taken c rest).busy = s.busy := by cases c <;> rfl

/-- A code on the port of an idle block, or a direct call, is taken and its operation run; a request at a busy block
waits. -/
theorem runCode_cases (c : Code) (rest : List HostAction) (s : State) :
    runCode c rest s = exec (decode c) (s.taken c rest) ∨ (s.busy = true ∧ runCode c rest s = advance s) := by
  cases c with
  | wire b => exact .inl rfl
  | req w =>
    cases hs : s.busy with
    | true => exact .inr ⟨rfl, by simp [runCode, State.reqReady, hs]⟩
    | false => exact .inl (by simp [runCode, State.reqReady, hs, State.taken])

theorem goOn_busy {s : State} (hs : s.busy = true) : goOn s = advance s := if_pos hs

theorem goOn_idle {s : State} (hs : s.busy = false) : goOn s = .next s.wait := if_neg (by rw [hs]; decide)

/-- The next states of a step: the next phase, a wait, an operation of a code that was taken, or power-on. -/
theorem step_next_cases {s t : State} (h : step s = .next t) :
    (s.busy = true ∧ t = tick s) ∨ (s.busy = false ∧ t = s.wait) ∨
    (s.busy = false ∧ ∃ c rest, t = reached (s.taken c rest) (decode c)) ∨
    (s.busy = false ∧ ∃ rest, s.host = .assertRstN :: rest ∧ t = s.powerOn rest) := by
  rcases step_cases s with ⟨-, he⟩ | ⟨c, rest, -, he⟩ | ⟨rest, hh, he⟩ | ⟨l, v, rest, -, he⟩ <;> rw [he] at h
  · cases hs : s.busy with
    | true =>
      rw [goOn_busy hs] at h
      exact .inl ⟨rfl, advance_next h⟩
    | false =>
      rw [goOn_idle hs] at h
      cases h
      exact .inr (.inl ⟨rfl, rfl⟩)
  · rcases runCode_cases c rest s with hc | ⟨hs, hc⟩ <;> rw [hc] at h
    · obtain ⟨hs, -, ht⟩ := exec_next h
      exact .inr (.inr (.inl ⟨(s.taken_busy c rest).symm.trans hs, c, rest, ht⟩))
    · exact .inl ⟨hs, advance_next h⟩
  · split at h
    · cases h
    · next hs =>
      cases h
      exact .inr (.inr (.inr ⟨Bool.eq_false_of_not_eq_true hs, rest, hh, rfl⟩))
  · cases h

/-- What holds of an idle block is kept by every step if waiting, every operation that a code names, and power-on keep it. -/
theorem step_keeps_of_idle {P : State → Prop} (wait : ∀ s, P s → P s.wait)
    (operation : ∀ (s : State) (c : Code) (rest : List HostAction), P s → P (reached (s.taken c rest) (decode c)))
    (powerOn : ∀ (s : State) (rest : List HostAction), P (s.powerOn rest)) {s t : State} (hs : Idle s) (hP : P s)
    (h : step s = .next t) : Idle t ∧ P t := by
  obtain ⟨notBusy, seqIdle⟩ := hs
  rcases step_next_cases h with ⟨hs, -⟩ | ⟨-, rfl⟩ | ⟨-, c, rest, rfl⟩ | ⟨-, rest, -, rfl⟩
  · rw [notBusy] at hs; cases hs
  · exact ⟨⟨notBusy, seqIdle⟩, wait s hP⟩
  · obtain ⟨busy, seq, -⟩ := reached_idle (s.taken c rest) ((s.taken_busy c rest).trans notBusy) (decode c)
    exact ⟨⟨busy, seq⟩, operation s c rest hP⟩
  · exact ⟨⟨rfl, rfl⟩, powerOn s rest⟩

/-- Settles O40. -/
theorem stepRunsRequest : Obligations.StepRunsRequest := fun _ _ _ hs hh => step_call_idle hs hh

theorem step_of_host_cons {s : State} {a : HostAction} {rest : List HostAction} (hh : s.host = a :: rest) :
    step s = react a rest s := by
  rw [step, hh]

theorem step_of_host_nil {s : State} (hh : s.host = []) : step s = goOn s := by
  rw [step, hh]

/-- Settles O41: a direct call does not ask whether the block is ready. -/
theorem stepRunsDirectCall : Obligations.StepRunsDirectCall := fun _ _ _ hh => step_of_host_cons hh

/-- Settles O42: with either port a busy block goes on by one phase, which R150 may stop. -/
theorem requestWaitsWhileBusy : Obligations.RequestWaitsWhileBusy := by
  intro s hs port
  have goesOn : step s = advance s := by
    rcases port with hh | ⟨w, rest, hh⟩
    · rw [step_of_host_nil hh, goOn_busy hs]
    · rw [step_of_host_cons hh, react, runCode, State.reqReady, hs]
      rfl
  rw [goesOn]
  exact ⟨fun runs => ⟨advance_runs runs, tick_host s⟩, fun op ho hr => advance_faults ho hr⟩

/-- Settles O43. -/
theorem idleBlockWaits : Obligations.IdleBlockWaits := by
  intro s hs hh
  rw [step_of_host_nil hh, goOn_idle hs]
  rfl

/-- Settles O44. -/
theorem powerOnReset : Obligations.PowerOnReset := by
  intro s rest hh
  rw [step_of_host_cons hh, react]
  exact ⟨fun hs => if_pos hs,
    fun hs => ⟨s.powerOn rest, if_neg (by rw [hs]; decide), rfl, rfl, rfl, rfl, rfl, rfl, rfl⟩⟩

/-- Settles O45. -/
theorem foreignDriverRefused : Obligations.ForeignDriverRefused := fun _ _ _ _ hh => step_of_host_cons hh

/-- Settles O46. -/
theorem powerOnValues : Obligations.PowerOnValues := ⟨rfl, rfl, rfl, rfl, rfl, rfl⟩

/-! ## The trace grows and the lines follow it (R27, R48) -/

/-- From `s` to `t` some events went out, and the lines followed them. -/
def Emits (s t : State) : Prop := ∃ es, t.trace = s.trace ++ es ∧ t.lines = levelsAfter s.lines es

theorem emits_of_eq {s t : State} (trace : t.trace = s.trace) (lines : t.lines = s.lines) : Emits s t :=
  ⟨[], trace.trans (List.append_nil _).symm, lines⟩

theorem reached_emits (s : State) (i : Instr) : Emits s (reached s i) := by
  by_cases hi : i = .reset
  · subst hi
    exact ⟨resetEvents, reached_reset_trace s, rfl⟩
  · exact ⟨_, reached_trace s hi, reached_lines s hi⟩

theorem tick_emits (s : State) : Emits s (tick s) := by
  unfold tick
  cases s.seq with
  | idle => exact emits_of_eq rfl rfl
  | rstLow => exact ⟨_, rfl, rfl⟩
  | rstHigh => exact ⟨_, rfl, rfl⟩
  | frame k i p =>
    cases p with
    | loadLow =>
      dsimp only
      split
      · exact ⟨_, rfl, rfl⟩
      · exact emits_of_eq rfl rfl
    | clkLow =>
      dsimp only
      split <;> exact ⟨_, rfl, rfl⟩
    | settle =>
      dsimp only
      split <;> exact ⟨_, rfl, rfl⟩
    | data | clkHigh | loadHigh => exact ⟨_, rfl, rfl⟩

/-- Every step but a power-on reset emits events. -/
theorem step_emits_or_powerOn {s t : State} (h : step s = .next t) :
    Emits s t ∨ ∃ rest, s.host = .assertRstN :: rest ∧ t = s.powerOn rest := by
  rcases step_next_cases h with ⟨-, rfl⟩ | ⟨-, rfl⟩ | ⟨-, c, rest, rfl⟩ | ⟨-, powerOn⟩
  · exact .inl (tick_emits s)
  · exact .inl (emits_of_eq rfl rfl)
  · have emits := reached_emits (s.taken c rest) (decode c)
    rw [Emits, s.taken_trace, s.taken_lines] at emits
    exact .inl emits
  · exact .inr powerOn

/-- Settles O47. -/
theorem traceOnlyGrows : Obligations.TraceOnlyGrows := by
  intro s t h noReset
  rcases step_emits_or_powerOn h with ⟨es, trace, -⟩ | ⟨rest, hh, -⟩
  · exact ⟨es, trace.symm⟩
  · exact absurd hh (noReset rest)

/-- Settles O50: the level view of a longer trace goes on from the lines it left. -/
theorem levelViewKept : Obligations.LevelViewKept := by
  intro s t view h
  rcases step_emits_or_powerOn h with ⟨es, trace, lines⟩ | ⟨rest, -, rfl⟩
  · rw [LevelView, lines, view, trace, levelsAfter_append]
  · rfl

/-! ## The idle levels (R26) -/

theorem idleLevels_of_nothing_sent {s : State} (hr : s.resetState = .unreset) (ht : s.trace = []) : IdleLevels s := by
  refine ⟨fun b hb => ?_, fun ready => ?_⟩
  · rw [ht] at hb; cases hb
  · rw [hr] at ready; cases ready

theorem idleLevels_reached {s : State} (levels : IdleLevels s) (i : Instr) : IdleLevels (reached s i) := by
  obtain ⟨afterByte, resetHigh⟩ := levels
  by_cases hi : i = .reset
  · subst hi
    rw [IdleLevels, reached_reset_trace, traceBytes_append_resetEvents]
    exact ⟨afterByte, fun _ => rfl⟩
  rw [IdleLevels, reached_trace s hi, traceBytes_append_frames, reached_resetState s hi]
  rcases reached_lines_cases s hi with ⟨empty, lines⟩ | ⟨bs, b, bytes, lines⟩
  · rw [empty, lines, List.append_nil]
    exact ⟨afterByte, resetHigh⟩
  · rw [bytes, lines, ← List.append_assoc, List.getLast?_concat]
    refine ⟨fun c hc => ?_, resetHigh⟩
    cases hc
    exact ⟨rfl, rfl, rfl⟩

/-- Settles O51. -/
theorem idleLevelsKept : Obligations.IdleLevelsKept := by
  intro s t
  refine step_keeps_of_idle (fun _ levels => levels) (fun s c rest levels => idleLevels_reached ?_ _)
    (fun _ _ => idleLevels_of_nothing_sent rfl rfl)
  rwa [IdleLevels, s.taken_trace, s.taken_lines, s.taken_resetState]

/-! ## The mirror invariant (R22, R120) -/

theorem mirrorInv_of_unreset {s : State} (hr : s.resetState = .unreset) : MirrorInv s := by
  intro ready
  rw [hr] at ready
  cases ready

/-- The last command sent is that of the mirror. -/
theorem mirrorInv_of_command {s : State} (clear : s.resetState = .ready → s.mirror.clear = false)
    (command : traceLastCtrl s.trace = some (encCtrl s.mirror)) : MirrorInv s := by
  intro ready
  refine ⟨clear ready, fun b hb => ?_, fun noCommand => ?_⟩
  · rw [command] at hb
    exact (Option.some.inj hb).symm
  · rw [command] at noCommand
    cases noCommand

/-- No command was sent and the mirror was not written. -/
theorem mirrorInv_of_unchanged {s t : State} (inv : MirrorInv s) (resetState : t.resetState = s.resetState)
    (mirror : t.mirror = s.mirror) (lastCtrl : traceLastCtrl t.trace = traceLastCtrl s.trace) : MirrorInv t := by
  rwa [MirrorInv, resetState, mirror, lastCtrl]

theorem reached_writeByte_lastCtrl (s : State) (c : Byte) :
    traceLastCtrl (reached s (.writeByte c)).trace = nextCtrl (traceLastCtrl s.trace) c :=
  reached_lastCtrl s nofun

/-- `WRITE_BYTE c` puts the mirror and the chip apart only with a control command that is not that of the mirror (R177). -/
theorem mirrorInv_writeByte {s : State} (inv : MirrorInv s) {c : Byte}
    (hc : c &&& 0xD0#8 ≠ 0xC0#8 ∨ c = encCtrl s.mirror) : MirrorInv (reached s (.writeByte c)) := by
  have lastCtrl := reached_writeByte_lastCtrl s c
  rcases hc with hc | rfl
  · exact mirrorInv_of_unchanged inv rfl rfl (lastCtrl.trans (nextCtrl_of_not_ctrl _ hc))
  · exact mirrorInv_of_command (fun ready => (inv ready).1) (lastCtrl.trans (nextCtrl_encCtrl _ _))

/-- No byte of a glyph write, a digit select or a row is a control command. -/
theorem foldl_nextCtrl_of_not_ctrl {bs : List Byte} (h : ∀ b ∈ bs, b &&& 0xD0#8 ≠ 0xC0#8) (last : Option Byte) :
    bs.foldl nextCtrl last = last := by
  induction bs with
  | nil => rfl
  | cons b bs ih =>
    rw [List.foldl_cons, nextCtrl_of_not_ctrl last (h b List.mem_cons_self)]
    exact ih fun c hc => h c (List.mem_cons_of_mem b hc)

theorem glyphBytes_not_ctrl {d : Byte} {g : Glyph} {b : Byte} (hb : b ∈ glyphBytes d g) : b &&& 0xD0#8 ≠ 0xC0#8 := by
  rcases List.mem_cons.mp hb with rfl | hb
  · exact dsel_format_ne_ctrl (encDsel_format d)
  · obtain ⟨v, -, rfl⟩ := List.mem_map.mp hb
    exact row_format_ne_ctrl (encRow_format v)

/-- An operation that writes no field of the mirror and sends no control command keeps the invariant. -/
theorem mirrorInv_of_no_command {s : State} (inv : MirrorInv s) {i : Instr} (hi : i ≠ .reset)
    (mirror : mirrorAfter s.mirror i = s.mirror) (bytes : ∀ b ∈ bytesOf s i, b &&& 0xD0#8 ≠ 0xC0#8) :
    MirrorInv (reached s i) :=
  mirrorInv_of_unchanged inv (reached_resetState s hi) ((reached_mirror s i).trans mirror)
    ((reached_lastCtrl s hi).trans (foldl_nextCtrl_of_not_ctrl bytes _))

/-- Every operation keeps the mirror invariant, but for `WRITE_BYTE` of a control command. -/
theorem mirrorInv_reached {s : State} (inv : MirrorInv s) {i : Instr}
    (hi : ∀ c, i = .writeByte c → c &&& 0xD0#8 ≠ 0xC0#8) : MirrorInv (reached s i) := by
  have clear (ready : s.resetState = .ready) : s.mirror.clear = false := (inv ready).1
  cases i with
  | writeByte c => exact mirrorInv_writeByte inv (.inl (hi c rfl))
  | ctrlWrite => exact mirrorInv_of_command clear (reached_lastCtrl_eq_command s (.inl rfl))
  | clear => exact mirrorInv_of_command (fun _ => rfl) (reached_lastCtrl_eq_command s (.inr (.inl rfl)))
  | setBrightness b =>
    exact mirrorInv_of_command clear (reached_lastCtrl_eq_command s (.inr (.inr (.inl ⟨b, rfl⟩))))
  | setPeakCurrent p =>
    exact mirrorInv_of_command clear (reached_lastCtrl_eq_command s (.inr (.inr (.inr ⟨p, rfl⟩))))
  | reset =>
    intro _
    rw [reached_reset_lastCtrl]
    exact ⟨rfl, nofun, fun _ => rfl⟩
  | digitSelect d =>
    refine mirrorInv_of_no_command inv nofun rfl fun b hb => ?_
    rw [List.mem_singleton.mp hb]
    exact dsel_format_ne_ctrl (encDsel_format d)
  | rowData v =>
    refine mirrorInv_of_no_command inv nofun rfl fun b hb => ?_
    rw [List.mem_singleton.mp hb]
    exact row_format_ne_ctrl (encRow_format v)
  | writeGlyph d g =>
    refine mirrorInv_of_no_command inv nofun rfl fun b hb => ?_
    rw [bytesOf] at hb
    split at hb
    · exact glyphBytes_not_ctrl hb
    · cases hb
  | getBrightness | getPeakCurrent | reservedReq7 | reservedReq8F => exact mirrorInv_of_no_command inv nofun rfl nofun

/-- No code names `WRITE_BYTE` of a control command (log 7). -/
theorem not_ctrl_of_decode_eq_writeByte {c : Code} {b : Byte} (h : decode c = .writeByte b) : b &&& 0xD0#8 ≠ 0xC0#8 := by
  cases c with
  | req w =>
    have visible := hostVisible_decode_req w
    rw [h] at visible
    cases visible
  | wire c =>
    rw [decode, decodeWire] at h
    split at h <;> cases h
    next unclaimed =>
      intro ctrl
      rw [decodeByte_of_ctrl ctrl] at unclaimed
      cases unclaimed

/-- Settles O48: by operation, for the operations that a code names. -/
theorem mirrorInvariantKept : Obligations.MirrorInvariantKept := by
  intro s t
  refine step_keeps_of_idle (fun _ inv => inv)
    (fun s c rest inv => mirrorInv_reached ?_ fun b => not_ctrl_of_decode_eq_writeByte)
    (fun _ _ => mirrorInv_of_unreset rfl)
  rwa [MirrorInv, s.taken_trace, s.taken_mirror, s.taken_resetState]

/-- Settles O49. -/
theorem powerOnMeetsInvariants : Obligations.PowerOnMeetsInvariants :=
  ⟨⟨rfl, rfl⟩, mirrorInv_of_unreset rfl, rfl, idleLevels_of_nothing_sent rfl rfl⟩

/-- Settles O55: the byte, if it is a control command, is the last one, and the invariant asks it to be that of the
mirror. -/
theorem writeByteCanBreakMirrorInvariant : Obligations.WriteByteCanBreakMirrorInvariant := by
  intro c s hs hr
  refine ⟨_, exec_wellFormed rfl rfl hs, fun ctrl other inv => ?breaks, fun hc inv => mirrorInv_writeByte inv hc⟩
  case breaks =>
    obtain ⟨-, command, -⟩ := inv hr
    have lastCtrl : traceLastCtrl (reached s (.writeByte c)).trace = some c :=
      (reached_writeByte_lastCtrl s c).trans (nextCtrl_of_ctrl _ ctrl)
    exact other (command c lastCtrl)

end Sys2Proof.Machine
end

section
/-! The host's text layer (43_host_text_layer.md), outside the block: `print` up to the end of the buffer, `render` cell by
cell. -/

namespace Sys2Proof.Machine

/-! ## Print (R129) -/

theorem printInto_cons_of_lt (buf : List Byte) {pos : Nat} (c : Byte) (cs : List Byte) (hpos : pos < 8) :
    printInto buf pos (c :: cs) = printInto (buf.set pos c) (pos + 1) cs :=
  if_pos hpos

theorem printInto_at_end (buf text : List Byte) : printInto buf 8 text = (buf, 8) := by
  cases text <;> rfl

theorem printInto_next (buf text : List Byte) {pos : Nat} (hpos : pos ≤ 8) :
    (printInto buf pos text).2 = min 8 (pos + text.length) := by
  induction text generalizing buf pos with
  | nil => exact (Nat.min_eq_right hpos).symm
  | cons c cs ih =>
    rcases Nat.lt_or_eq_of_le hpos with hpos | rfl
    · rw [printInto_cons_of_lt buf c cs hpos, ih _ hpos, List.length_cons]
      omega
    · rw [printInto_at_end]
      omega

theorem length_printInto (buf text : List Byte) (pos : Nat) : (printInto buf pos text).1.length = buf.length := by
  induction text generalizing buf pos with
  | nil => rfl
  | cons c cs ih =>
    rw [printInto]
    split
    · rw [ih, List.length_set]
    · rfl

/-- The cells from `pos` on hold the text as far as it goes, the others what they held. -/
theorem getElem?_printInto {buf : List Byte} (text : List Byte) {pos i : Nat} (hbuf : buf.length = 8) (hpos : pos ≤ 8)
    (hi : i < 8) :
    (printInto buf pos text).1[i]? = if pos ≤ i ∧ i < pos + text.length then text[i - pos]? else buf[i]? := by
  induction text generalizing buf pos with
  | nil => rw [printInto, if_neg (by rw [List.length_nil]; omega)]
  | cons c cs ih =>
    rcases Nat.lt_or_eq_of_le hpos with hpos | rfl
    · rw [printInto_cons_of_lt buf c cs hpos, ih (List.length_set.trans hbuf) hpos, List.length_cons]
      rcases Nat.lt_trichotomy i pos with before | rfl | after
      · rw [if_neg (by omega), if_neg (by omega), List.getElem?_set_ne (by omega)]
      · rw [if_neg (by omega), if_pos (by omega), List.getElem?_set_self (by omega), Nat.sub_self]
        exact List.getElem?_cons_zero.symm
      · obtain ⟨j, rfl⟩ := Nat.exists_eq_add_of_lt after
        rw [List.getElem?_set_ne (by omega), show pos + j + 1 - pos = j + 1 by omega, List.getElem?_cons_succ,
          show pos + j + 1 - (pos + 1) = j by omega]
        congr 1
        simp only [eq_iff_iff]
        omega
    · rw [printInto_at_end, if_neg (by omega)]

/-- Settles O53. -/
theorem printStopsAtBufferEnd : Obligations.PrintStopsAtBufferEnd := fun h _ text hbuf hpos =>
  ⟨printInto_next h.buffer text hpos, rfl, (length_printInto h.buffer text _).trans hbuf,
    fun _ hi => getElem?_printInto text hbuf hpos hi⟩

/-! ## Render (R133) -/

theorem renderCell_of_hit {h : HostText} {c : Byte} {g : Glyph} (hit : h.lookup c = some g) (fb : Fallback) (pos : Nat) :
    h.renderCell fb pos c = [.writeGlyph (BitVec.ofNat 8 pos) g] := by
  unfold HostText.renderCell
  rw [hit]

/-- A cell is one glyph write to its own position, or nothing where the host skips a missing glyph. -/
theorem renderCell_cases (h : HostText) (fb : Fallback) (pos : Nat) (c : Byte) :
    h.renderCell fb pos c = [] ∨ ∃ g, h.renderCell fb pos c = [.writeGlyph (BitVec.ofNat 8 pos) g] := by
  unfold HostText.renderCell
  split
  · exact .inr ⟨_, rfl⟩
  · exact .inr ⟨_, rfl⟩
  · exact .inl rfl

theorem length_render_le (h : HostText) (fb : Fallback) : (h.render fb).length ≤ h.buffer.length := by
  have cell (e : Byte × Nat) : (h.renderCell fb e.2 e.1).length ≤ 1 := by
    rcases renderCell_cases h fb e.2 e.1 with skipped | ⟨g, one⟩
    · rw [skipped]; decide
    · rw [one]; exact Nat.le_refl 1
  have cells : ∀ es : List (Byte × Nat), (es.flatMap fun e => h.renderCell fb e.2 e.1).length ≤ es.length := by
    intro es
    induction es with
    | nil => exact Nat.le_refl 0
    | cons e es ih =>
      rw [List.flatMap_cons, List.length_append, List.length_cons]
      have := cell e
      omega
  exact (cells _).trans_eq List.length_zipIdx

/-- Each request writes to the position of a cell. -/
theorem writeGlyph_of_mem_render {h : HostText} {fb : Fallback} {i : Instr} (hi : i ∈ h.render fb) :
    ∃ pos < h.buffer.length, ∃ g, i = .writeGlyph (BitVec.ofNat 8 pos) g := by
  obtain ⟨⟨c, pos⟩, hcell, hi⟩ := List.mem_flatMap.mp hi
  obtain ⟨-, hpos, -⟩ := List.mem_zipIdx hcell
  rcases renderCell_cases h fb pos c with skipped | ⟨g, one⟩
  · rw [skipped] at hi; cases hi
  · rw [one] at hi
    exact ⟨pos, by omega, g, List.mem_singleton.mp hi⟩

/-- With a glyph for every cell the requests are the glyph writes of the cells, in their order. -/
theorem render_of_hits {h : HostText} {f : Nat → Glyph}
    (hits : ∀ i < h.buffer.length, ∃ c, h.buffer[i]? = some c ∧ h.lookup c = some (f i)) (fb : Fallback) :
    h.render fb = (List.range h.buffer.length).map fun i => .writeGlyph (BitVec.ofNat 8 i) (f i) := by
  have cell : ∀ e ∈ h.buffer.zipIdx, h.renderCell fb e.2 e.1 = [.writeGlyph (BitVec.ofNat 8 e.2) (f e.2)] := by
    rintro ⟨c, i⟩ he
    have held : h.buffer[i]? = some c := List.mk_mem_zipIdx_iff_getElem?.mp he
    obtain ⟨hi, -⟩ := List.getElem?_eq_some_iff.mp held
    obtain ⟨c', held', hit⟩ := hits i hi
    cases held.symm.trans held'
    exact renderCell_of_hit hit fb i
  calc h.render fb = h.buffer.zipIdx.flatMap fun e => [.writeGlyph (BitVec.ofNat 8 e.2) (f e.2)] :=
        List.flatMap_congr cell
    _ = (h.buffer.zipIdx.map Prod.snd).map fun i => .writeGlyph (BitVec.ofNat 8 i) (f i) := by
        rw [List.map_map, List.map_eq_flatMap]
        rfl
    _ = _ := by rw [List.zipIdx_map_snd, List.range_eq_range']

/-- Settles O54: the buffer has eight cells. -/
theorem renderWritesGlyphs : Obligations.RenderWritesGlyphs := by
  intro h fb hbuf
  refine ⟨hbuf ▸ length_render_le h fb, fun i hi => ?digit, fun f hits => ?order⟩
  case digit =>
    obtain ⟨pos, hpos, g, rfl⟩ := writeGlyph_of_mem_render hi
    refine ⟨_, g, rfl, ?_⟩
    have seven : (7 : Byte).toNat = 7 := rfl
    rw [BitVec.le_def, BitVec.toNat_ofNat, seven]
    omega
  case order =>
    have writes := render_of_hits (f := f) (fun i hi => hits i (hbuf ▸ hi)) fb
    rwa [hbuf] at writes

end Sys2Proof.Machine
end
